-- ==== Sys2Proof/Word.lean ====
section
/-! DEFINITION. Word.lean: the two bit-vector widths of BLPE (00_scope.md R6, R11). -/

namespace Sys2Proof

/-- A byte, an unsigned value 0 to 255 (R11): the unit of every wire frame and of both buffers. -/
abbrev Byte := BitVec 8

/-- A u32, an unsigned 32-bit value (R11): host addresses, host registers, target addresses. -/
abbrev Word := BitVec 32

end Sys2Proof
end

