-- ==== Sys2Proof/Syntax.lean ====
section
/-! DEFINITION. Syntax.lean: the formats of 30_encoding.md R54 and the ONE inductive of instructions, a constructor for
every row of spec/opcode_table.json. The eight HOSTCMD rows are the host operations of R56 (the spec's "instructions");
the wire rows are the frames the engine sends and the units it reads, each the operand of one engine action (R28). -/

namespace Sys2Proof

/-- The eight formats of R54, "and no others". -/
inductive Format
  /-- `HOSTCMD`: one 32-bit write to `CMD` (R55). -/
  | hostCmd
  /-- `RESP`: one response byte (R57). -/
  | resp
  /-- `INIT`: the synchronisation byte (R58). -/
  | init
  /-- `CMDFRAME`: opcode and complement (R59). -/
  | cmdFrame
  /-- `SELFRAME`: the mass-erase selector (R60). -/
  | selFrame
  /-- `ADDRFRAME`: big-endian address and checksum (R61). -/
  | addrFrame
  /-- `DATAFRAME`: length byte, payload, checksum (R62). -/
  | dataFrame
  /-- `IDRESP`: the device's side of GET ID (R63). -/
  | idResp
  deriving DecidableEq, Repr

/-- The instructions: one constructor per row of spec/opcode_table.json. `ignored` is bits [31:4] of the word written to
`CMD`, which carry no operand (R55) and are kept so that no bit of an encoding is dropped. -/
inductive Instr
  /-- `SYNC`, `OP = 0x1` (R93). -/
  | sync (ignored : BitVec 28)
  /-- `GET_ID`, `OP = 0x2` (R100). -/
  | getId (ignored : BitVec 28)
  /-- `ERASE_ALL`, `OP = 0x3` (R104). -/
  | eraseAll (ignored : BitVec 28)
  /-- `UPLOAD`, `OP = 0x4` (R116). -/
  | upload (ignored : BitVec 28)
  /-- `NEW_SESSION`, `OP = 0x5` (R121). -/
  | newSession (ignored : BitVec 28)
  /-- `RESERVED_0`, `OP = 0x0` (R68). -/
  | reserved0 (ignored : BitVec 28)
  /-- `RESERVED_6_7`, `OP = 0b011x`; `low` is bit 0 of the code (R68). -/
  | reserved67 (low : BitVec 1) (ignored : BitVec 28)
  /-- `RESERVED_8_F`, `OP = 0b1xxx`; `low` is bits [2:0] of the code (R68). -/
  | reserved8F (low : BitVec 3) (ignored : BitVec 28)
  /-- `INIT`: `[0x7F]`, sent at SY_SEND (R58, R93). -/
  | init
  /-- `CMD_GET_ID`: `[0x02, 0xFD]`, sent at GI_SEND (R59, R100). -/
  | cmdGetId
  /-- `CMD_EXTENDED_ERASE`: `[0x44, 0xBB]`, sent at ER_SEND_CMD (R59, R104). -/
  | cmdExtendedErase
  /-- `CMD_WRITE_MEMORY`: `[0x31, 0xCE]`, sent at WR_SEND_CMD (R59, R108). -/
  | cmdWriteMemory
  /-- `MASS_ERASE_SELECTOR`: `[0xFF, 0xFF, 0x00]`, sent at ER_SEND_SEL (R60, R104). -/
  | massEraseSelector
  /-- `ADDRESS_FRAME`: the address, big-endian, and its checksum, sent at WR_SEND_ADDR (R61, R79, R108). -/
  | addressFrame (addr : Word)
  /-- `DATA_FRAME`: length byte, payload, checksum, sent at WR_SEND_DATA (R62, R80, R108). -/
  | dataFrame (payload : List Byte)
  /-- `RESP_ACK`: the byte `0x79` read at an acknowledgement stage (R57, R85). -/
  | respAck
  /-- `RESP_NACK`: the byte `0x1F` read at an acknowledgement stage (R57, R85). -/
  | respNack
  /-- `RESP_OTHER`: any other byte read at an acknowledgement stage (R57, R69, R85). -/
  | respOther (b : Byte)
  /-- `GETID_RESPONSE`: ACK, length byte, identifier, ACK (R63, R100). -/
  | getidResponse (ident : List Byte)
  deriving DecidableEq, Repr

/-- The format (R54) in which each instruction is encoded. -/
def Instr.format : Instr → Format
  | .sync _ | .getId _ | .eraseAll _ | .upload _ | .newSession _ => .hostCmd
  | .reserved0 _ | .reserved67 _ _ | .reserved8F _ _ => .hostCmd
  | .init => .init
  | .cmdGetId | .cmdExtendedErase | .cmdWriteMemory => .cmdFrame
  | .massEraseSelector => .selFrame
  | .addressFrame _ => .addrFrame
  | .dataFrame _ => .dataFrame
  | .respAck | .respNack | .respOther _ => .resp
  | .getidResponse _ => .idResp

end Sys2Proof
end

