-- ==== Sys2Proof/Machine/Framing.lean ====
section
/-! DEFINITION. Machine/Framing.lean: the framing unit of 40_framing.md (checksums, frame builders, validators, response
decoder) and the byte-order helpers. Every function here is combinational (40_framing.md, introduction). -/

namespace Sys2Proof.Machine

/-- `addr[31:24], addr[23:16], addr[15:8], addr[7:0]`: most significant byte first (R43, R61). -/
def wordBytes (w : Word) : List Byte :=
  [w.extractLsb' 24 8, w.extractLsb' 16 8, w.extractLsb' 8 8, w.extractLsb' 0 8]

/-- The word whose bytes, most significant first, are the four given. -/
def bytesWord (b3 b2 b1 b0 : Byte) : Word := b3 ++ b2 ++ b1 ++ b0

/-- `XORFOLD(s)` (R12). -/
def xorFold (s : List Byte) : Byte := s.foldl (· ^^^ ·) 0#8

/-- `command_checksum(opcode)` (R75). -/
def commandChecksum (opcode : Byte) : Byte := opcode ^^^ 0xFF#8

/-- `block_checksum(length_byte, payload)` (R76). -/
def blockChecksum (lengthByte : Byte) (payload : List Byte) : Byte := payload.foldl (· ^^^ ·) lengthByte

/-- `address_checksum(addr)` (R77). -/
def addressChecksum (addr : Word) : Byte :=
  addr.extractLsb' 24 8 ^^^ addr.extractLsb' 16 8 ^^^ addr.extractLsb' 8 8 ^^^ addr.extractLsb' 0 8

/-- `INIT` (R58). -/
def initFrame : List Byte := [0x7F#8]

/-- `CommandFrame(opcode)` (R78). -/
def commandFrame (opcode : Byte) : List Byte := [opcode, commandChecksum opcode]

/-- `AddressFrame(addr)` (R79). -/
def addressFrame (addr : Word) : List Byte := wordBytes addr ++ [addressChecksum addr]

/-- `zext_8(len(p) − 1)` (R65). -/
def lengthByte (p : List Byte) : Byte := BitVec.ofNat 8 (p.length - 1)

/-- `DataFrame(p)` (R80). -/
def dataFrame (p : List Byte) : List Byte := lengthByte p :: (p ++ [blockChecksum (lengthByte p) p])

/-- `SelectorFrame` (R60, R81). -/
def selectorFrame : List Byte := [0xFF#8, 0xFF#8, 0x00#8]

/-- A whole `IDRESP` unit: ACK, length byte, identifier, ACK (R63, R66). -/
def idResponse (ident : List Byte) : List Byte := 0x79#8 :: lengthByte ident :: (ident ++ [0x79#8])

/-- `ValidateCommandFrame(f)` (R82). -/
def validateCommandFrame (f : List Byte) : Bool :=
  match f with
  | [a, b] => b == a ^^^ 0xFF#8
  | _ => false

/-- `ValidateBlockFrame(f)` (R83). -/
def validateBlockFrame (f : List Byte) : Bool := decide (2 ≤ f.length) && xorFold f == 0#8

/-- `ValidateAddressFrame(f)` (R84). -/
def validateAddressFrame (f : List Byte) : Bool := decide (f.length = 5) && validateBlockFrame f

/-- The length check of `ValidateDataFrame(f)`: at least 3 bytes, and as many as the first byte declares (R84). -/
def dataFrameLengthOk (f : List Byte) : Bool :=
  match f with
  | [] => false
  | l :: _ => decide (3 ≤ f.length ∧ f.length = l.toNat + 3)

/-- `ValidateDataFrame(f)` (R84). -/
def validateDataFrame (f : List Byte) : Bool := dataFrameLengthOk f && validateBlockFrame f

/-- The four results of the response decoder (R85). -/
inductive Response
  | timeout
  | ack
  | nack
  | other (b : Byte)
  deriving DecidableEq, Repr

/-- `DecodeResponse(r)` (R85). -/
def decodeResponse : List Byte → Response
  | [] => .timeout
  | b :: _ => if b = 0x79#8 then .ack else if b = 0x1F#8 then .nack else .other b

end Sys2Proof.Machine
end

