-- ==== Sys2Proof/WellFormed.lean ====
section
/-! DEFINITION. WellFormed.lean: which terms of `Instr` the encoding admits. -/

namespace Sys2Proof

/-- A payload or identifier has 1 to 256 bytes (R62, R65, R66: "There is no encoding for an empty payload"). -/
def lengthOk (bs : List Byte) : Bool := decide (1 ≤ bs.length ∧ bs.length ≤ 256)

/-- Well-formed instructions. A data frame's payload and a GET ID identifier have 1 to 256 bytes (R62, R66), and
`RESP_OTHER` stands for the 254 byte values that are neither ACK nor NACK (R57). -/
def Instr.wf : Instr → Bool
  | .dataFrame p => lengthOk p
  | .getidResponse ident => lengthOk ident
  | .respOther b => b != 0x79#8 && b != 0x1F#8
  | .sync _ | .getId _ | .eraseAll _ | .upload _ | .newSession _ => true
  | .reserved0 _ | .reserved67 _ _ | .reserved8F _ _ => true
  | .init | .cmdGetId | .cmdExtendedErase | .cmdWriteMemory => true
  | .massEraseSelector | .addressFrame _ | .respAck | .respNack => true

end Sys2Proof
end

