-- ==== Sys2Proof/Decode.lean ====
section
/-! DEFINITION. Decode.lean: the decoder, total on any format and any bytes, rejecting by name; the fixed entry point
`decodeTableWord`; and after them the encoder, from the same tables (30_encoding.md R54 to R66). A unit's bytes are
written in index order, `frame[0]` first (R43). A `HOSTCMD` word is written here most significant byte first: the host
bus moves it as one 32-bit value (R36, R55), and that order is the model's own (notes/assumptions/3.md). -/

namespace Sys2Proof

open Machine

/-- Why the decoder rejects bytes. -/
inductive DecodeError
  /-- The unit has not the length its format requires (R54, R72, R84). -/
  | wrongLength
  /-- A byte of a constant frame differs (R58, R60). -/
  | wrongConstant
  /-- A command frame's second byte is not the complement of its first (R59, R82). -/
  | badComplement
  /-- A command frame whose opcode is none of the three that exist (R59, R70). -/
  | unknownOpcode
  /-- A block whose bytes do not XOR to zero (R61, R62, R83). -/
  | badChecksum
  /-- An `IDRESP` unit whose first or last byte is not ACK (R63). -/
  | notAcknowledged
  deriving DecidableEq, Repr

/-- The host operation in a word written to `CMD` (R55, R56, R68). -/
def decodeHostWord (w : Word) : Instr :=
  let ignored := w.extractLsb' 4 28
  let op : BitVec 4 := w.extractLsb' 0 4
  if op = 0x0#4 then .reserved0 ignored
  else if op = 0x1#4 then .sync ignored
  else if op = 0x2#4 then .getId ignored
  else if op = 0x3#4 then .eraseAll ignored
  else if op = 0x4#4 then .upload ignored
  else if op = 0x5#4 then .newSession ignored
  else if op.extractLsb' 1 3 = 0b011#3 then .reserved67 (op.extractLsb' 0 1) ignored
  else .reserved8F (op.extractLsb' 0 3) ignored

/-- A `HOSTCMD` unit (R55). -/
def decodeHostCmd : List Byte → Except DecodeError Instr
  | [b3, b2, b1, b0] => .ok (decodeHostWord (bytesWord b3 b2 b1 b0))
  | _ => .error .wrongLength

/-- A `RESP` unit (R57). -/
def decodeResp : List Byte → Except DecodeError Instr
  | [b] => .ok (if b = 0x79#8 then .respAck else if b = 0x1F#8 then .respNack else .respOther b)
  | _ => .error .wrongLength

/-- An `INIT` unit (R58). -/
def decodeInit : List Byte → Except DecodeError Instr
  | [b] => if b = 0x7F#8 then .ok .init else .error .wrongConstant
  | _ => .error .wrongLength

/-- A `CMDFRAME` unit (R59, R82): one of exactly three command frames. -/
def decodeCmdFrame : List Byte → Except DecodeError Instr
  | [opcode, c] =>
    if c ≠ opcode ^^^ 0xFF#8 then .error .badComplement
    else if opcode = 0x02#8 then .ok .cmdGetId
    else if opcode = 0x44#8 then .ok .cmdExtendedErase
    else if opcode = 0x31#8 then .ok .cmdWriteMemory
    else .error .unknownOpcode
  | _ => .error .wrongLength

/-- A `SELFRAME` unit (R60): the one selector that exists (93 I11). -/
def decodeSelFrame (f : List Byte) : Except DecodeError Instr :=
  if f.length ≠ 3 then .error .wrongLength
  else if f = selectorFrame then .ok .massEraseSelector
  else .error .wrongConstant

/-- An `ADDRFRAME` unit (R61, R84). -/
def decodeAddrFrame : List Byte → Except DecodeError Instr
  | [b3, b2, b1, b0, c] =>
    if validateBlockFrame [b3, b2, b1, b0, c] then .ok (.addressFrame (bytesWord b3 b2 b1 b0))
    else .error .badChecksum
  | _ => .error .wrongLength

/-- A `DATAFRAME` unit (R62, R84). -/
def decodeDataFrame : List Byte → Except DecodeError Instr
  | [] => .error .wrongLength
  | l :: rest =>
    if dataFrameLengthOk (l :: rest) then
      if validateBlockFrame (l :: rest) then .ok (.dataFrame rest.dropLast) else .error .badChecksum
    else .error .wrongLength

/-- An `IDRESP` unit (R63, R66). -/
def decodeIdResp : List Byte → Except DecodeError Instr
  | a :: n :: rest =>
    if a ≠ 0x79#8 then .error .notAcknowledged
    else if rest.length ≠ n.toNat + 2 then .error .wrongLength
    else if rest.getLast? ≠ some 0x79#8 then .error .notAcknowledged
    else .ok (.getidResponse rest.dropLast)
  | _ => .error .wrongLength

/-- The decoder: the instruction that the bytes of one unit of a format stand for. -/
def decode : Format → List Byte → Except DecodeError Instr
  | .hostCmd => decodeHostCmd
  | .resp => decodeResp
  | .init => decodeInit
  | .cmdFrame => decodeCmdFrame
  | .selFrame => decodeSelFrame
  | .addrFrame => decodeAddrFrame
  | .dataFrame => decodeDataFrame
  | .idResp => decodeIdResp

/-- The `k` bytes of a table word, first-sent byte in the most significant bits (30_encoding.md, introduction). -/
def tableBytes : Nat → Nat → List Byte
  | 0, _ => []
  | k + 1, w => BitVec.ofNat 8 (w / 256 ^ k) :: tableBytes k w

/-- The formats of R54 that have units of `nbits` bits, in the order in which a table word is tried. The direction of a
unit is no part of its bytes, so where two formats share a length the table's order decides (notes/assumptions/3.md). -/
def tableFormats (nbits : Nat) : List Format :=
  if nbits = 8 then [.init, .resp]
  else if nbits = 16 then [.cmdFrame]
  else if nbits = 24 then [.selFrame, .dataFrame]
  else if nbits = 32 then [.hostCmd]
  else if nbits = 40 then [.addrFrame, .dataFrame, .idResp]
  else [.dataFrame, .idResp]

/-- The instruction that the first fitting format reads. -/
def decodeFirst : List Format → List Byte → Option Instr
  | [], _ => none
  | f :: fs, bs =>
    match decode f bs with
    | .ok i => some i
    | .error _ => decodeFirst fs bs

/-- The instruction the decoder reads from a table row's word of `nbits` bits. -/
def decodeTableWord (nbits w : Nat) : Option Instr :=
  decodeFirst (tableFormats nbits) (tableBytes (nbits / 8) w)

/-- `CMD` word: bits [31:4] ignored, bits [3:0] the operation code (R55). -/
def hostWord (ignored : BitVec 28) (op : BitVec 4) : Word := ignored ++ op

/-- The encoder: the bytes of an instruction's unit, in index order (R55 to R63). -/
def encode : Instr → List Byte
  | .sync ignored => wordBytes (hostWord ignored 0x1#4)
  | .getId ignored => wordBytes (hostWord ignored 0x2#4)
  | .eraseAll ignored => wordBytes (hostWord ignored 0x3#4)
  | .upload ignored => wordBytes (hostWord ignored 0x4#4)
  | .newSession ignored => wordBytes (hostWord ignored 0x5#4)
  | .reserved0 ignored => wordBytes (hostWord ignored 0x0#4)
  | .reserved67 low ignored => wordBytes (hostWord ignored (0b011#3 ++ low))
  | .reserved8F low ignored => wordBytes (hostWord ignored (0b1#1 ++ low))
  | .init => [0x7F#8]
  | .cmdGetId => [0x02#8, 0xFD#8]
  | .cmdExtendedErase => [0x44#8, 0xBB#8]
  | .cmdWriteMemory => [0x31#8, 0xCE#8]
  | .massEraseSelector => [0xFF#8, 0xFF#8, 0x00#8]
  | .addressFrame addr => addressFrame addr
  | .dataFrame p => dataFrame p
  | .respAck => [0x79#8]
  | .respNack => [0x1F#8]
  | .respOther b => [b]
  | .getidResponse ident => idResponse ident

end Sys2Proof
end

