-- ==== Sys2Proof/Config.lean ====
section
/-! DEFINITION. Config.lean: what an implementation fixes (R7) and the free values the spec leaves open. Nothing here
that is opaque has a body, so no proof can learn its value. -/

namespace Sys2Proof.Config

/-- `IMAGE_MAX − 1` of the implementation (R7, R26, 92_eei_decisions.md D2). R7 leaves `IMAGE_MAX` open with
`1 ≤ IMAGE_MAX ≤ 0xFFFF0000`; the type holds exactly that range. notes/assumptions/1.md. -/
opaque imageMaxPred : Fin 0xFFFF0000

/-- `IMAGE_MAX`, the size in bytes of the image buffer (R7, R26). -/
def imageMax : Nat := imageMaxPred.val + 1

/-- The `k`-th free draw of an image byte that nothing has written since power-on (R31, R37, 93 I15: "drawn freely at
each read (host or engine)"). `State.draws` counts the draws. notes/assumptions/2.md. -/
opaque freeByte : Nat → Byte

end Sys2Proof.Config
end

