-- ==== Sys2Proof/Machine/State.lean ====
section
/-! DEFINITION. Machine/State.lean: the state of BLPE and of what surrounds it (10_state.md), as plain data, the reasons a
step can stop, and the state after reset (R34). -/

namespace Sys2Proof.Machine

/-- `SESSION`, the source's Session State (R27). Codes 6 and 7 never occur (R19). -/
inductive Session
  | uninitialized
  | synchronized
  | erased
  | programming
  | complete
  | failed
  deriving DecidableEq, Repr

/-- `RESULT` (R126). Codes 9 to 15 are never produced. -/
inductive ResultCode
  | none
  | ok
  | noResponse
  | unexpectedByte
  | nack
  | desync
  | chunkFailed
  | sessionClosed
  | contractError
  deriving DecidableEq, Repr

/-- The error kinds that `Fail` takes (R128, R129). -/
inductive ErrorKind
  | noResponse
  | unexpectedByte
  | nack
  | desync
  deriving DecidableEq, Repr

/-- The stages (R127); `none` is code 0, NONE. Codes 11 to 15 are never produced. -/
inductive Stage
  | none
  | sync
  | getidCmd
  | getidLen
  | getidData
  | getidFinal
  | eraseCmd
  | eraseSel
  | writeCmd
  | writeAddr
  | writeData
  deriving DecidableEq, Repr

/-- The sequencer steps (R28); codes 20 to 31 never occur. -/
inductive Seq
  | idle
  | syClear
  | sySend
  | syWait
  | giSend
  | giAck
  | giLen
  | giData
  | giFinal
  | erSendCmd
  | erAckCmd
  | erSendSel
  | erAckSel
  | upNext
  | wrSendCmd
  | wrAckCmd
  | wrSendAddr
  | wrAckAddr
  | wrSendData
  | wrAckData
  deriving DecidableEq, Repr

/-- The host operations (R56). -/
inductive HostOp
  | sync
  | getId
  | eraseAll
  | upload
  | newSession
  deriving DecidableEq, Repr

/-- The read-timeout registers (R25, R135). No rule reads their numbers (R10). notes/assumptions/12.md. -/
inductive Timer
  | tack
  | terase
  deriving DecidableEq, Repr

/-- The `reason` of a `Failed` event (R134): a kind, or `ChunkFailed{address, cause}`. -/
inductive FailReason
  | kind (k : ErrorKind)
  | chunkFailed (address : Word) (cause : ErrorKind)
  deriving DecidableEq, Repr

/-- The status events (R134). -/
inductive Event
  | synchronized
  | chipIdReceived (bytes : List Byte)
  | eraseStarted
  | eraseComplete
  | chunkWritten (address : Word) (length : BitVec 9) (bytesWritten totalBytes : Word)
  | uploadComplete (totalBytes : Word)
  | failed (stage : Stage) (reason : FailReason)
  deriving DecidableEq, Repr

/-- One turn of one agent (R8, R10): the interleaving of the agents' atomic steps is written out in `State.sched`.
notes/assumptions/4.md. -/
inductive Action
  /-- The host writes `value` at `addr`; the access is `width` bits wide (R36 to R40). -/
  | hostWrite (addr : Word) (width : Nat) (value : Word)
  /-- The host reads at `addr`; the access is `width` bits wide (R36 to R40). -/
  | hostRead (addr : Word) (width : Nat)
  /-- The link appends one byte to `RXQ` (R46). -/
  | linkPush (b : Byte)
  /-- The engine takes its next step, if one is enabled (R28, R45 RecvData). -/
  | engine
  /-- The engine takes its next four steps, with no other agent's step among them, on a whole `IDRESP` unit at the front
  of `RXQ` (R63, R100). notes/assumptions/5.md. -/
  | idResponse
  /-- The link ends the pending read by timeout (R45 RecvTimeout). -/
  | timeout
  /-- Power-on reset is asserted (R138, R139). -/
  | powerOn
  deriving DecidableEq, Repr

/-- Memory: the bytes of the host address space's two byte windows, at their host addresses (R35): `CHIPID` at `0x100`
(R30, R38) and `IMG` at `0x00010000` (R31, R37). The canonical form is `Memory.wf` in Machine/Memory.lean. -/
abbrev Memory := List Host.Cell

/-- The machine's state. Every field but the last three is the spec's; `IMGMAX` is the constant `Config.imageMax` (R26)
and `CMD` holds no value (R18), so neither is a field. -/
structure State where
  /-- `STATUS.BUSY` (R19, R32). -/
  busy : Bool
  /-- `STATUS.SESSION` (R19, R27). -/
  session : Session
  /-- `STATUS.ID_VALID` (R19, R32). -/
  idValid : Bool
  /-- `STATUS.RESULT` (R19, R126). -/
  result : ResultCode
  /-- `STATUS.FAIL_KIND` (R19, R126): `none` is the spec's own code 0. -/
  failKind : Option ErrorKind
  /-- `STATUS.FAIL_STAGE` (R19, R127). -/
  failStage : Stage
  /-- `BASE` (R20). -/
  base : Word
  /-- `LEN` (R21). -/
  len : Word
  /-- `FAIL_ADDR` (R22). -/
  failAddr : Word
  /-- `BYTES_WRITTEN` (R23). -/
  bytesWritten : Word
  /-- `CHIPID_LEN`, bits [8:0] (R24). -/
  chipidLen : BitVec 9
  /-- `TACK`, milliseconds (R25). -/
  tack : Word
  /-- `TERASE`, milliseconds (R25). -/
  terase : Word
  /-- `seq`, the sequencer's step register (R28). -/
  seq : Seq
  /-- `OP`, the code of the running host operation (R29). -/
  op : BitVec 4
  /-- `CHUNK_ADDR` (R29). -/
  chunkAddr : Word
  /-- `CHUNK_LEN` (R29). -/
  chunkLen : BitVec 9
  /-- `IDN` (R29). -/
  idn : Byte
  /-- `IDTMP` (R29). -/
  idtmp : List Byte
  /-- `CHIPID[0..255]` and `IMG[0..IMAGE_MAX−1]` (R30, R31). -/
  mem : Memory
  /-- `RXQ`, the transport's receive buffer, front first (R33). -/
  rxq : List Byte
  /-- `TXLOG`, every byte sent, in order (R33). -/
  txlog : List Byte
  /-- `EVLOG`, every event emitted, in order (R33, R134). -/
  evlog : List Event
  /-- The model's own: the turns still to come, the next one first (R10). When it is empty the engine has every turn. -/
  sched : List Action
  /-- The model's own: how many free draws of an unwritten image byte have been made (R31, R37). -/
  draws : Nat
  /-- The model's own: the value the last host read returned, zero-extended to 32 bits (R36 to R39).
  notes/assumptions/11.md. -/
  rdata : Word
  deriving DecidableEq, Repr

/-- Why the machine faults. Both are raised by the engine alone, in states that no run reaches: `Safety.Inv` rules them
out. The spec calls for no fault (R39, R124); these are computations for whose result it gives no value. -/
inductive Fault
  /-- `UP_NEXT` with `BYTES_WRITTEN > LEN`: `LEN − BYTES_WRITTEN` is no length (R87: "`BYTES_WRITTEN` never exceeds
  `LEN`"). Raised by `upNext`. Safe: the model stops where the spec gives nothing. notes/assumptions/6.md. -/
  | uploadOverrun
  /-- An exact sum `BASE + BYTES_WRITTEN` or `BYTES_WRITTEN + CHUNK_LEN` of `2^32` or more, which no 32-bit register
  holds (R64, R87: "no address sum reaches `2^32`"). Raised by `upNext` and `chunkDone`. Safe. notes/assumptions/6.md. -/
  | sumOverflow
  deriving DecidableEq, Repr

/-- Why the machine refuses. A refusal of a host command by R119 is none of these: it is a next state with `RESULT` set. -/
inductive Refusal
  /-- An instruction that has no meaning yet, by its mnemonic. Raised by `exec` alone; no arm raises it now. Safe. -/
  | notModelled (mnemonic : String)
  /-- `DataFrame` of a payload outside 1 to 256 bytes: "a caller contract error" (R80, R106; 93 I3: `refuse`). Raised by
  `step` at `WR_SEND_DATA`, in states that no run reaches (`Safety.Inv`). Safe. notes/assumptions/6.md. -/
  | payloadLength
  deriving DecidableEq, Repr

/-- What a step answers. -/
abbrev StepResult := Host.Outcome State Fault Refusal

/-- The machine right after power-on reset (R34, R138). `RXQ` is the link's choice (93 I20), `TXLOG` and `EVLOG` are
empty when the model starts (R33); the last three fields are the model's own. notes/assumptions/7.md. -/
def State.reset : State where
  busy := false
  session := .uninitialized
  idValid := false
  result := .none
  failKind := none
  failStage := .none
  base := 0#32
  len := 0#32
  failAddr := 0#32
  bytesWritten := 0#32
  chipidLen := 0#9
  tack := 1000#32
  terase := 30000#32
  seq := .idle
  op := 0#4
  chunkAddr := 0#32
  chunkLen := 0#9
  idn := 0#8
  idtmp := []
  mem := []
  rxq := []
  txlog := []
  evlog := []
  sched := []
  draws := 0
  rdata := 0#32

end Sys2Proof.Machine
end

