-- ==== Sys2Proof/Machine/Flags.lean ====
section
/-! DEFINITION. Machine/Flags.lean: the numeric codes of R27, R28, R56, R126, R127 and R134, and `STATUS` as the host
reads it (R19). -/

namespace Sys2Proof.Machine

/-- The code of a Session State in `STATUS[3:1]` (R27). -/
def Session.code : Session → BitVec 3
  | .uninitialized => 0
  | .synchronized => 1
  | .erased => 2
  | .programming => 3
  | .complete => 4
  | .failed => 5

/-- The terminal states: COMPLETE and FAILED (R27). -/
def Session.terminal : Session → Bool
  | .complete | .failed => true
  | .uninitialized | .synchronized | .erased | .programming => false

/-- The code of a result in `STATUS[11:8]` (R126). -/
def ResultCode.code : ResultCode → BitVec 4
  | .none => 0
  | .ok => 1
  | .noResponse => 2
  | .unexpectedByte => 3
  | .nack => 4
  | .desync => 5
  | .chunkFailed => 6
  | .sessionClosed => 7
  | .contractError => 8

/-- The `RESULT` code that names an error kind (R126). -/
def ErrorKind.result : ErrorKind → ResultCode
  | .noResponse => .noResponse
  | .unexpectedByte => .unexpectedByte
  | .nack => .nack
  | .desync => .desync

/-- `FAIL_KIND` in `STATUS[15:12]`: 0, or 2 to 5 of R126. -/
def failKindCode : Option ErrorKind → BitVec 4
  | none => 0
  | some k => k.result.code

/-- The code of a stage in `STATUS[19:16]` (R127). -/
def Stage.code : Stage → BitVec 4
  | .none => 0
  | .sync => 1
  | .getidCmd => 2
  | .getidLen => 3
  | .getidData => 4
  | .getidFinal => 5
  | .eraseCmd => 6
  | .eraseSel => 7
  | .writeCmd => 8
  | .writeAddr => 9
  | .writeData => 10

/-- The write stages, whose failures are `ChunkFailed` (R128, R129). -/
def Stage.isWrite : Stage → Bool
  | .writeCmd | .writeAddr | .writeData => true
  | .none | .sync | .getidCmd | .getidLen | .getidData | .getidFinal | .eraseCmd | .eraseSel => false

/-- The code of a sequencer step (R28). -/
def Seq.code : Seq → BitVec 5
  | .idle => 0
  | .syClear => 1
  | .sySend => 2
  | .syWait => 3
  | .giSend => 4
  | .giAck => 5
  | .giLen => 6
  | .giData => 7
  | .giFinal => 8
  | .erSendCmd => 9
  | .erAckCmd => 10
  | .erSendSel => 11
  | .erAckSel => 12
  | .upNext => 13
  | .wrSendCmd => 14
  | .wrAckCmd => 15
  | .wrSendAddr => 16
  | .wrAckAddr => 17
  | .wrSendData => 18
  | .wrAckData => 19

/-- The code of a host operation in `CMD[3:0]` (R56). -/
def HostOp.code : HostOp → BitVec 4
  | .sync => 1
  | .getId => 2
  | .eraseAll => 3
  | .upload => 4
  | .newSession => 5

/-- The code of an event record (R134). -/
def Event.code : Event → Nat
  | .synchronized => 1
  | .chipIdReceived _ => 2
  | .eraseStarted => 3
  | .eraseComplete => 4
  | .chunkWritten _ _ _ _ => 5
  | .uploadComplete _ => 6
  | .failed _ _ => 7

/-- `STATUS` as the host reads it: the fields of R19, reserved bits 0. -/
def State.status (s : State) : Word :=
  0#12 ++ s.failStage.code ++ failKindCode s.failKind ++ s.result.code ++ 0#3 ++ BitVec.ofBool s.idValid
    ++ s.session.code ++ BitVec.ofBool s.busy

end Sys2Proof.Machine
end

