-- ==== Sys2Proof/Machine/Memory.lean ====
section
/-! DEFINITION. Machine/Memory.lean: the two byte windows of the host address space (R35) as one list of cells in one
canonical form. -/

namespace Sys2Proof.Machine

/-- The first host address of the `CHIPID` window (R17, R38). -/
def chipidBase : Nat := 0x100

/-- The first host address of the `IMG` window (R17, R37). -/
def imgBase : Nat := 0x10000

/-- `a` lies in the `CHIPID` window, `0x100` to `0x1FF` (R38). -/
def inChipid (a : Nat) : Bool := decide (0x100 ≤ a ∧ a < 0x200)

/-- `a` lies in the `IMG` window, `0x00010000` to `0x00010000 + IMAGE_MAX − 1` (R37). -/
def inImg (a : Nat) : Bool := decide (0x10000 ≤ a ∧ a < 0x10000 + Config.imageMax)

/-- What an unlisted address reads as: `0x00` in the `CHIPID` window (R30, R38), and elsewhere no value (an image byte
that nothing has written since power-on is a free draw at each read, R31). notes/assumptions/2.md. -/
def unlisted (a : Nat) : Option Byte := if inChipid a then some 0x00#8 else none

/-- The byte at host address `a`; `none` for an image byte that nothing has written. -/
def readByte : Memory → Nat → Option Byte
  | [], a => unlisted a
  | c :: m, a => if c.1 = a then some c.2 else readByte m a

/-- Lists the cell `(a, b)`, keeping the addresses rising. -/
def setCell (a : Nat) (b : Byte) : Memory → Memory
  | [] => [(a, b)]
  | c :: m => if a < c.1 then (a, b) :: c :: m else if a = c.1 then (a, b) :: m else c :: setCell a b m

/-- Drops the cell at `a`. -/
def dropCell (a : Nat) (m : Memory) : Memory := m.filter fun c => c.1 ≠ a

/-- Writes byte `b` at host address `a`. -/
def writeByte (m : Memory) (a : Nat) (b : Byte) : Memory :=
  if unlisted a = some b then dropCell a m else setCell a b m

/-- Writes a sequence of bytes from host address `a` on. -/
def writeBytes : Memory → Nat → List Byte → Memory
  | m, _, [] => m
  | m, a, b :: bs => writeBytes (writeByte m a b) (a + 1) bs

/-- `CHIPID[0..255] <- 0x00` (R30, R121). -/
def clearChipid (m : Memory) : Memory := m.filter fun c => !inChipid c.1

/-- The canonical form: addresses strictly rising, and no entry equal to what an unlisted address reads as. -/
abbrev Memory.wf (m : Memory) : Prop :=
  m.Pairwise (fun c d => c.1 < d.1) ∧ ∀ c ∈ m, unlisted c.1 ≠ some c.2

end Sys2Proof.Machine
end

