-- ==== Sys2Proof/Machine/Operands.lean ====
section
/-! DEFINITION. Machine/Operands.lean: the operands of the host operations and of the engine's frames: the image bytes of
a chunk, the next chunk's length and address, the operand checks of UPLOAD, and the upload plan (43_upload.md). -/

namespace Sys2Proof.Machine

/-- `ImgRead(i)` for `k` consecutive image bytes from `i` on, with the draw counter before and after: an unwritten byte
is a free draw (R37). -/
def imgReads (m : Memory) : Nat → Nat → Nat → List Byte × Nat
  | 0, _, d => ([], d)
  | k + 1, i, d =>
    match readByte m (imgBase + i) with
    | some b => (b :: (imgReads m k (i + 1) d).1, (imgReads m k (i + 1) d).2)
    | none => (Config.freeByte d :: (imgReads m k (i + 1) (d + 1)).1, (imgReads m k (i + 1) (d + 1)).2)

/-- The payload `p = [ImgRead(BYTES_WRITTEN + j) for j in 0 .. CHUNK_LEN−1]` of the chunk being written (R108). -/
def State.chunkPayload (s : State) : List Byte :=
  (imgReads s.mem s.chunkLen.toNat s.bytesWritten.toNat s.draws).1

/-- The draw counter after that payload has been read. -/
def State.chunkDraws (s : State) : Nat :=
  (imgReads s.mem s.chunkLen.toNat s.bytesWritten.toNat s.draws).2

/-- UPLOAD's operand checks: `LEN ≤ IMAGE_MAX` and `BASE + LEN ≤ 2^32`, the sum exact (R109). -/
def State.uploadOperandsOk (s : State) : Bool :=
  decide (s.len.toNat ≤ Config.imageMax ∧ s.base.toNat + s.len.toNat ≤ 2 ^ 32)

/-- `K = ceil(L / 256)`, the number of chunks of the upload plan (R110). -/
def planCount (len : Nat) : Nat := (len + 255) / 256

/-- `offset(i)` of the upload plan (R110). -/
def planOffset (i : Nat) : Nat := 256 * i

/-- `length(i)` of the upload plan (R110). -/
def planLength (len i : Nat) : Nat := min 256 (len - 256 * i)

/-- `address(i)` of the upload plan (R110). -/
def planAddress (base i : Nat) : Nat := base + 256 * i

end Sys2Proof.Machine
end

