-- ==== Sys2Proof/Machine/Ops.lean ====
section
/-! DEFINITION. Machine/Ops.lean: the shared operations: the transport primitives `Send`, `Recv`, `ClearInput`
(20_memory.md), `Emit`, `Finish`, the acceptance and refusal of a host command (44_session.md), the failure entry `Fail`
(R129, this machine's exception entry) with the way back out of FAILED beside it (R121, R132), and the end of a read at
every sequencer step that reads. -/

namespace Sys2Proof.Machine

/-! ## Elementary updates -/

/-- `seq <- q` (R13). -/
def State.goto (s : State) (q : Seq) : State := { s with seq := q }

/-- `SESSION <- v` (R27). -/
def State.setSession (s : State) (v : Session) : State := { s with session := v }

/-- `Send(frame)`: appends every byte of the frame to `TXLOG`; the flush is part of it (R44, R48). -/
def State.send (s : State) (frame : List Byte) : State := { s with txlog := s.txlog ++ frame }

/-- `Emit(e)`: appends the event to `EVLOG`, which delivers it to the event sink in the same step (R134). -/
def State.emit (s : State) (e : Event) : State := { s with evlog := s.evlog ++ [e] }

/-- `ClearInput()` (R47). -/
def State.clearInput (s : State) : State := { s with rxq := [] }

/-- `RXQ <- RXQ[n ..]`: the `n` bytes at the front of the receive queue are taken (R45). -/
def State.dropRx (s : State) (n : Nat) : State := { s with rxq := s.rxq.drop n }

/-- `Finish(result)` (R120). -/
def State.finish (s : State) (r : ResultCode) : State := { s with result := r, busy := false, seq := .idle }

/-- A refusal: `RESULT` is set to its code and nothing else changes (R119, R125). -/
def State.refuse (s : State) (r : ResultCode) : State := { s with result := r }

/-! ## Failure entry and the way back -/

/-- `Fail(stage, kind)`, the failure entry (R129): the failure record is saved in `RESULT`, `FAIL_KIND`, `FAIL_STAGE` and,
for a write stage, `FAIL_ADDR`; the session becomes FAILED, the `Failed` event is emitted, and the engine goes to IDLE. -/
def State.fail (s : State) (stage : Stage) (kind : ErrorKind) : State :=
  { s with
    result := if stage.isWrite then .chunkFailed else kind.result
    failAddr := if stage.isWrite then s.chunkAddr else s.failAddr
    evlog := s.evlog ++
      [.failed stage (if stage.isWrite then .chunkFailed s.chunkAddr kind else .kind kind)]
    failKind := some kind
    failStage := stage
    session := .failed
    busy := false
    seq := .idle }

/-- NEW_SESSION, the only way back to UNINITIALIZED apart from power-on reset (R121, R132). -/
def State.newSession (s : State) : State :=
  { s with
    session := .uninitialized
    idValid := false
    failKind := none
    failStage := .none
    failAddr := 0#32
    bytesWritten := 0#32
    chipidLen := 0#9
    mem := clearChipid s.mem
    idtmp := []
    result := .ok }

/-- Power-on reset (R34, R138, R139): every piece of BLPE state takes its reset value, `IMG` keeps its content (R31), and
what lies outside the block (`RXQ`, `TXLOG`, `EVLOG`, the turns to come, the model's own counters) is untouched.
notes/assumptions/8.md. -/
def State.powerOn (s : State) : State :=
  { State.reset with
    mem := clearChipid s.mem
    rxq := s.rxq
    txlog := s.txlog
    evlog := s.evlog
    sched := s.sched
    draws := s.draws
    rdata := s.rdata }

/-! ## Host commands -/

/-- The operation is legal in the current session (R92, R96, R101, R109; the legality table of R119). -/
def State.legal (s : State) : HostOp → Bool
  | .sync => s.session == .uninitialized
  | .getId => s.session == .synchronized && !s.idValid
  | .eraseAll => s.session == .synchronized
  | .upload => s.session == .erased
  | .newSession => true

/-- Checks 2 to 5 of R119, in order: the code with which the operation is refused, if it is. -/
def State.refusal (s : State) (op : HostOp) : Option ResultCode :=
  if op = .newSession then none
  else if s.session.terminal then some .sessionClosed
  else if !s.legal op then some .contractError
  else if op = .upload ∧ s.uploadOperandsOk = false then some .contractError
  else none

/-- The first sequencer step of an accepted operation (R118). NEW_SESSION has none: it is done in the step of the write
(R121). -/
def HostOp.entry : HostOp → Seq
  | .sync => .syClear
  | .getId => .giSend
  | .eraseAll => .erSendCmd
  | .upload => .upNext
  | .newSession => .idle

/-- Acceptance of an operation (R118). -/
def State.accept (s : State) (op : HostOp) : State :=
  { s with
    result := .none
    op := op.code
    busy := true
    seq := op.entry
    bytesWritten := if op = .upload then 0#32 else s.bytesWritten }

/-- A write to `CMD` does `act` when no operation runs, and is ignored while one does (R51, R117). -/
def whenIdle (s : State) (act : State → State) : StepResult := if s.busy then .next s else .next (act s)

/-- A write to `CMD` of the code of SYNC, GET_ID, ERASE_ALL or UPLOAD: refused by R119 or accepted by R118. -/
def State.issue (s : State) (op : HostOp) : State :=
  match s.refusal op with
  | some code => s.refuse code
  | none => s.accept op

/-! ## Frames and reads -/

/-- An engine action that is due does `act`; one that is not due at the current sequencer step does nothing, since each
`seq` names the one action the engine performs (R28). notes/assumptions/9.md. -/
def whenDue (s : State) (due : Prop) [Decidable due] (act : State → State) : StepResult :=
  if due then .next (act s) else .next s

/-- The pending read at a sequencer step: how many bytes it asks for and which timeout register it names (R28, R45,
R135). -/
def State.pendingRead (s : State) : Option (Nat × Timer) :=
  match s.seq with
  | .syWait => some (1, .tack)
  | .giAck => some (1, .tack)
  | .giLen => some (1, .tack)
  | .giData => some (s.idn.toNat + 1, .tack)
  | .giFinal => some (1, .tack)
  | .erAckCmd => some (1, .tack)
  | .erAckSel => some (1, .terase)
  | .wrAckCmd => some (1, .tack)
  | .wrAckAddr => some (1, .tack)
  | .wrAckData => some (1, .tack)
  | .idle | .syClear | .sySend | .giSend | .erSendCmd | .erSendSel | .upNext => none
  | .wrSendCmd | .wrSendAddr | .wrSendData => none

/-- The sequencer steps that read one `RESP` (R28, R86, R93, R100). -/
def Seq.readsResp : Seq → Bool
  | .syWait | .giAck | .giFinal | .erAckCmd | .erAckSel | .wrAckCmd | .wrAckAddr | .wrAckData => true
  | .idle | .syClear | .sySend | .giSend | .giLen | .giData | .erSendCmd | .erSendSel | .upNext => false
  | .wrSendCmd | .wrSendAddr | .wrSendData => false

/-- `AwaitAck(stage, T)` on the bytes `r` the read yielded (R86). -/
def awaitAck (stage : Stage) (r : List Byte) (s : State) (onAck : State → StepResult) : StepResult :=
  match decodeResponse r with
  | .ack => onAck s
  | .timeout => .next (s.fail stage .noResponse)
  | .nack => .next (s.fail stage .nack)
  | .other _ => .next (s.fail stage .unexpectedByte)

/-- `ChunkDone()` (R113); the sum is exact (R11, R87). -/
def chunkDone (s : State) : StepResult :=
  if 2 ^ 32 ≤ s.bytesWritten.toNat + s.chunkLen.toNat then .fault .sumOverflow
  else
    let written := s.bytesWritten + s.chunkLen.setWidth 32
    .next { s with
      bytesWritten := written
      evlog := s.evlog ++ [.chunkWritten s.chunkAddr s.chunkLen written s.len]
      seq := .upNext }

/-- The ACK arm of `GI_FINAL` (R100): the identifier is stored and the operation finishes. -/
def State.storeId (s : State) : State :=
  { s with
    mem := writeBytes s.mem chipidBase (s.idtmp.take (s.idn.toNat + 1))
    chipidLen := BitVec.ofNat 9 (s.idn.toNat + 1)
    idValid := true
    evlog := s.evlog ++ [.chipIdReceived s.idtmp]
    result := .ok
    busy := false
    seq := .idle }

/-- The end of the pending read with the bytes `r` (R45): what each reading step does with them (R86, R93, R100, R104,
R108). A step that reads nothing has no pending read to end. -/
def completeRead (r : List Byte) (s : State) : StepResult :=
  match s.seq with
  | .syWait =>
    match decodeResponse r with
    | .ack => .next (((s.setSession .synchronized).emit .synchronized).finish .ok)
    | .timeout => .next (s.fail .sync .noResponse)
    | .nack => .next (s.fail .sync .unexpectedByte)
    | .other _ => .next (s.fail .sync .unexpectedByte)
  | .giAck => awaitAck .getidCmd r s fun s => .next (s.goto .giLen)
  | .giLen =>
    match r with
    | [] => .next (s.fail .getidLen .noResponse)
    | n :: _ => .next { s with idn := n, seq := .giData }
  | .giData =>
    if r.length < s.idn.toNat + 1 then .next (s.fail .getidData .desync)
    else .next { s with idtmp := r, seq := .giFinal }
  | .giFinal =>
    match decodeResponse r with
    | .ack => .next s.storeId
    | .timeout => .next (s.fail .getidFinal .desync)
    | .nack => .next (s.fail .getidFinal .nack)
    | .other _ => .next (s.fail .getidFinal .unexpectedByte)
  | .erAckCmd => awaitAck .eraseCmd r s fun s => .next (s.goto .erSendSel)
  | .erAckSel =>
    awaitAck .eraseSel r s fun s => .next (((s.setSession .erased).emit .eraseComplete).finish .ok)
  | .wrAckCmd => awaitAck .writeCmd r s fun s => .next (s.goto .wrSendAddr)
  | .wrAckAddr => awaitAck .writeAddr r s fun s => .next (s.goto .wrSendData)
  | .wrAckData => awaitAck .writeData r s chunkDone
  | .idle | .syClear | .sySend | .giSend | .erSendCmd | .erSendSel | .upNext => .next s
  | .wrSendCmd | .wrSendAddr | .wrSendData => .next s

/-- `RecvData` (R45): enabled when the bytes the pending read asks for wait in `RXQ`; else the engine keeps waiting. -/
def recvData (s : State) : StepResult :=
  match s.pendingRead with
  | none => .next s
  | some (n, _) => if n ≤ s.rxq.length then completeRead (s.rxq.take n) (s.dropRx n) else .next s

/-- `RecvTimeout` (R45): enabled while fewer bytes wait than the pending read asks for; it takes all of them. -/
def recvTimeout (s : State) : StepResult :=
  match s.pendingRead with
  | none => .next s
  | some (n, _) => if s.rxq.length < n then completeRead s.rxq s.clearInput else .next s

/-- The byte `b`, due at the front of `RXQ` at a step that reads one `RESP`, is taken and decoded (R85, R86). -/
def takeResp (b : Byte) (s : State) : StepResult :=
  if s.seq.readsResp = true ∧ s.rxq.head? = some b then completeRead [b] (s.dropRx 1) else .next s

/-! ## The upload loop -/

/-- Step `UP_NEXT` (R112); the sums are exact (R11, R64, R87). -/
def upNext (s : State) : StepResult :=
  if s.bytesWritten = s.len then
    .next (((s.setSession .complete).emit (.uploadComplete s.len)).finish .ok)
  else if s.len.toNat < s.bytesWritten.toNat then .fault .uploadOverrun
  else if 2 ^ 32 ≤ s.base.toNat + s.bytesWritten.toNat then .fault .sumOverflow
  else
    .next { s with
      chunkLen := BitVec.ofNat 9 (min 256 (s.len.toNat - s.bytesWritten.toNat))
      chunkAddr := s.base + s.bytesWritten
      session := if s.session = .erased then .programming else s.session
      seq := .wrSendCmd }

end Sys2Proof.Machine
end

