-- ==== Sys2Proof/Machine/HostCommands.lean ====
section
/-! DEFINITION. Machine/HostCommands.lean: the meanings of the HOSTCMD rows: one aligned 32-bit write to `CMD` (R55, R117).
The write is ignored while an operation runs; otherwise the checks of R119 run in the same step. Bits [31:4] carry no
operand. -/

namespace Sys2Proof.Machine

/-- `SYNC` (R92, R93, R118). -/
def execSync (_ignored : BitVec 28) (s : State) : StepResult := whenIdle s fun s => s.issue .sync

/-- `GET_ID` (R96, R100, R118). -/
def execGetId (_ignored : BitVec 28) (s : State) : StepResult := whenIdle s fun s => s.issue .getId

/-- `ERASE_ALL` (R101, R104, R118). -/
def execEraseAll (_ignored : BitVec 28) (s : State) : StepResult := whenIdle s fun s => s.issue .eraseAll

/-- `UPLOAD` (R109, R116, R118). -/
def execUpload (_ignored : BitVec 28) (s : State) : StepResult := whenIdle s fun s => s.issue .upload

/-- `NEW_SESSION` (R121): never refused, done in the step of the write. -/
def execNewSession (_ignored : BitVec 28) (s : State) : StepResult := whenIdle s fun s => s.newSession

/-- The reserved code `0x0` (R68, check 1 of R119). -/
def execReserved0 (_ignored : BitVec 28) (s : State) : StepResult := whenIdle s fun s => s.refuse .contractError

/-- The reserved codes `0x6` and `0x7` (R68, check 1 of R119). -/
def execReserved67 (_low : BitVec 1) (_ignored : BitVec 28) (s : State) : StepResult :=
  whenIdle s fun s => s.refuse .contractError

/-- The reserved codes `0x8` to `0xF` (R68, check 1 of R119). -/
def execReserved8F (_low : BitVec 3) (_ignored : BitVec 28) (s : State) : StepResult :=
  whenIdle s fun s => s.refuse .contractError

end Sys2Proof.Machine
end

