-- ==== Sys2Proof/Machine/ReadUnits.lean ====
section
/-! DEFINITION. Machine/ReadUnits.lean: the meanings of the units the engine reads: a response byte at an acknowledgement
stage (R57, R85, R86), and the whole device side of GET ID (R63, R100). -/

namespace Sys2Proof.Machine

/-- `RESP_ACK`: `0x79` at the front of `RXQ` at an acknowledgement stage (R85, R86). -/
def execRespAck (s : State) : StepResult := takeResp 0x79#8 s

/-- `RESP_NACK`: `0x1F` at the front of `RXQ` at an acknowledgement stage (R85, R86, R93). -/
def execRespNack (s : State) : StepResult := takeResp 0x1F#8 s

/-- `RESP_OTHER`: any other byte at the front of `RXQ` at an acknowledgement stage (R69, R85, R86). -/
def execRespOther (b : Byte) (s : State) : StepResult := takeResp b s

/-- One engine step after another, stopping where one stops. -/
def andThen (r : StepResult) (f : State → StepResult) : StepResult :=
  match r with
  | .next s => f s
  | .fault e => .fault e
  | .refused e => .refused e

/-- `GETID_RESPONSE`: the four consecutive reads of R63, `GI_ACK`, `GI_LEN`, `GI_DATA`, `GI_FINAL` (R100), on a whole
unit at the front of `RXQ`. -/
def execGetidResponse (ident : List Byte) (s : State) : StepResult :=
  if s.seq = .giAck ∧ (idResponse ident).isPrefixOf s.rxq = true then
    andThen (andThen (andThen (recvData s) recvData) recvData) recvData
  else .next s

end Sys2Proof.Machine
end

