-- ==== Sys2Proof/Machine/SentFrames.lean ====
section
/-! DEFINITION. Machine/SentFrames.lean: the meanings of the frames the engine sends: the action of the sequencer step
that sends each (R28). `Send` never blocks and never fails (R44). A frame is due only at its own step. -/

namespace Sys2Proof.Machine

/-- `INIT`: step SY_SEND (R93). -/
def execInit (s : State) : StepResult :=
  whenDue s (s.seq = .sySend) fun s => (s.send initFrame).goto .syWait

/-- `CMD_GET_ID`: step GI_SEND (R100). -/
def execCmdGetId (s : State) : StepResult :=
  whenDue s (s.seq = .giSend) fun s => (s.send (commandFrame 0x02#8)).goto .giAck

/-- `CMD_EXTENDED_ERASE`: step ER_SEND_CMD, which emits `EraseStarted` first (R104). -/
def execCmdExtendedErase (s : State) : StepResult :=
  whenDue s (s.seq = .erSendCmd) fun s => ((s.emit .eraseStarted).send (commandFrame 0x44#8)).goto .erAckCmd

/-- `CMD_WRITE_MEMORY`: step WR_SEND_CMD (R108). -/
def execCmdWriteMemory (s : State) : StepResult :=
  whenDue s (s.seq = .wrSendCmd) fun s => (s.send (commandFrame 0x31#8)).goto .wrAckCmd

/-- `MASS_ERASE_SELECTOR`: step ER_SEND_SEL (R81, R104). -/
def execMassEraseSelector (s : State) : StepResult :=
  whenDue s (s.seq = .erSendSel) fun s => (s.send selectorFrame).goto .erAckSel

/-- `ADDRESS_FRAME`: step WR_SEND_ADDR; the address is `CHUNK_ADDR` (R79, R108). -/
def execAddressFrame (addr : Word) (s : State) : StepResult :=
  whenDue s (s.seq = .wrSendAddr ∧ addr = s.chunkAddr) fun s => (s.send (addressFrame addr)).goto .wrAckAddr

/-- `DATA_FRAME`: step WR_SEND_DATA; the payload is the chunk's image bytes, read in this one step (R80, R108). -/
def execDataFrame (payload : List Byte) (s : State) : StepResult :=
  whenDue s (s.seq = .wrSendData ∧ payload = s.chunkPayload) fun s =>
    { (s.send (dataFrame payload)).goto .wrAckData with draws := s.chunkDraws }

end Sys2Proof.Machine
end

