-- ==== Sys2Proof/Machine/Dispatch.lean ====
section
/-! DEFINITION. Machine/Dispatch.lean: one arm per constructor of Instr. -/

namespace Sys2Proof.Machine

def exec (i : Instr) (s : State) : Host.Outcome State Fault Refusal :=
  match i with
  | .sync ignored => Sys2Proof.Machine.execSync ignored s
  | .getId ignored => Sys2Proof.Machine.execGetId ignored s
  | .eraseAll ignored => Sys2Proof.Machine.execEraseAll ignored s
  | .upload ignored => Sys2Proof.Machine.execUpload ignored s
  | .newSession ignored => Sys2Proof.Machine.execNewSession ignored s
  | .reserved0 ignored => Sys2Proof.Machine.execReserved0 ignored s
  | .reserved67 low ignored => Sys2Proof.Machine.execReserved67 low ignored s
  | .reserved8F low ignored => Sys2Proof.Machine.execReserved8F low ignored s
  | .init => Sys2Proof.Machine.execInit s
  | .cmdGetId => Sys2Proof.Machine.execCmdGetId s
  | .cmdExtendedErase => Sys2Proof.Machine.execCmdExtendedErase s
  | .cmdWriteMemory => Sys2Proof.Machine.execCmdWriteMemory s
  | .massEraseSelector => Sys2Proof.Machine.execMassEraseSelector s
  | .addressFrame addr => Sys2Proof.Machine.execAddressFrame addr s
  | .dataFrame payload => Sys2Proof.Machine.execDataFrame payload s
  | .respAck => Sys2Proof.Machine.execRespAck s
  | .respNack => Sys2Proof.Machine.execRespNack s
  | .respOther b => Sys2Proof.Machine.execRespOther b s
  | .getidResponse ident => Sys2Proof.Machine.execGetidResponse ident s

end Sys2Proof.Machine
end

