-- ==== Sys2Proof/Machine/HostBus.lean ====
section
/-! DEFINITION. Machine/HostBus.lean: host accesses to the register region and the two windows (R17, R35 to R40, R51).
The one host write that starts an operation, an aligned 32-bit write to `CMD`, is an instruction and is not here. -/

namespace Sys2Proof.Machine

/-- The host registers (R17). -/
inductive HostReg
  | cmd
  | status
  | base
  | len
  | failAddr
  | bytesWritten
  | chipidLen
  | tack
  | terase
  | imgmax
  deriving DecidableEq, Repr

/-- The offset of each register (R17). -/
def HostReg.offset : HostReg → Word
  | .cmd => 0x000
  | .status => 0x004
  | .base => 0x008
  | .len => 0x00C
  | .failAddr => 0x010
  | .bytesWritten => 0x014
  | .chipidLen => 0x018
  | .tack => 0x01C
  | .terase => 0x020
  | .imgmax => 0x024

/-- The register at an offset of the register region; `none` at the reserved offsets `0x028` to `0x0FC` (R17, R39). -/
def regAt (a : Word) : Option HostReg :=
  if a = 0x000#32 then some .cmd
  else if a = 0x004#32 then some .status
  else if a = 0x008#32 then some .base
  else if a = 0x00C#32 then some .len
  else if a = 0x010#32 then some .failAddr
  else if a = 0x014#32 then some .bytesWritten
  else if a = 0x018#32 then some .chipidLen
  else if a = 0x01C#32 then some .tack
  else if a = 0x020#32 then some .terase
  else if a = 0x024#32 then some .imgmax
  else none

/-- `a` lies in the register region, `0x000` to `0x0FF` (R35, R36). -/
def inRegs (a : Nat) : Bool := decide (a < 0x100)

/-- What each register reads as (R17 to R26); `CMD` is write-only and reads 0 (R18). -/
def State.readReg (s : State) : HostReg → Word
  | .cmd => 0#32
  | .status => s.status
  | .base => s.base
  | .len => s.len
  | .failAddr => s.failAddr
  | .bytesWritten => s.bytesWritten
  | .chipidLen => s.chipidLen.setWidth 32
  | .tack => s.tack
  | .terase => s.terase
  | .imgmax => BitVec.ofNat 32 Config.imageMax

/-- A write that R51 does not block: the four writable registers store it (R20, R21, R25), the read-only ones ignore it
(R17). -/
def State.writeReg (s : State) (v : Word) : HostReg → State
  | .base => { s with base := v }
  | .len => { s with len := v }
  | .tack => { s with tack := v }
  | .terase => { s with terase := v }
  | .cmd | .status | .failAddr | .bytesWritten | .chipidLen | .imgmax => s

/-- `HostWrite(addr, width, v)` of anything but a command (R36 to R39, R51). -/
def State.hostWrite (s : State) (addr : Word) (width : Nat) (v : Word) : State :=
  if s.busy then s
  else if inRegs addr.toNat then
    if width = 32 then
      match regAt addr with
      | some r => s.writeReg v r
      | none => s
    else s
  else if inImg addr.toNat ∧ width = 8 then { s with mem := writeByte s.mem addr.toNat (v.setWidth 8) }
  else s

/-- The value `HostRead(addr, width)` returns, zero-extended to 32 bits (R36 to R39). Every register offset is 4-byte
aligned, so a misaligned read finds none and returns 0. -/
def State.hostReadValue (s : State) (addr : Word) (width : Nat) : Word :=
  if inRegs addr.toNat then
    if width = 32 then
      match regAt addr with
      | some r => s.readReg r
      | none => 0#32
    else 0#32
  else if width = 8 ∧ (inChipid addr.toNat = true ∨ inImg addr.toNat = true) then
    match readByte s.mem addr.toNat with
    | some b => b.setWidth 32
    | none => (Config.freeByte s.draws).setWidth 32
  else 0#32

/-- The access reads an image byte that nothing has written, and so makes a free draw (R37). -/
def State.hostReadDraws (s : State) (addr : Word) (width : Nat) : Bool :=
  decide (width = 8) && inImg addr.toNat && (readByte s.mem addr.toNat).isNone

/-- `HostRead(addr, width)`: the value goes to the host and no other state of the spec changes (R40). -/
def State.hostRead (s : State) (addr : Word) (width : Nat) : State :=
  { s with
    rdata := s.hostReadValue addr width
    draws := if s.hostReadDraws addr width then s.draws + 1 else s.draws }

end Sys2Proof.Machine
end

