-- ==== Sys2Proof/Machine/Fetch.lean ====
section
/-! DEFINITION. Machine/Fetch.lean: whose turn it is, the unit that turn presents to the decoder (a command word, the
frame the sequencer sends, the response it reads), and the turns that present none. BLPE fetches no instructions from
memory (R52): its units come from the `CMD` write, from the sequencer and from `RXQ`. -/

namespace Sys2Proof.Machine

/-- The next turn: the first of the schedule, or the engine's where the schedule is empty. notes/assumptions/4.md. -/
def State.nextAction (s : State) : Action := s.sched.headD .engine

/-- The turn is taken out of the schedule. -/
def State.popTurn (s : State) : State := { s with sched := s.sched.tail }

/-- The frame that the sequencer step sends (R28), built by the framing unit. -/
def State.frameToSend (s : State) : Option (Format × List Byte) :=
  match s.seq with
  | .sySend => some (.init, initFrame)
  | .giSend => some (.cmdFrame, commandFrame 0x02#8)
  | .erSendCmd => some (.cmdFrame, commandFrame 0x44#8)
  | .erSendSel => some (.selFrame, selectorFrame)
  | .wrSendCmd => some (.cmdFrame, commandFrame 0x31#8)
  | .wrSendAddr => some (.addrFrame, addressFrame s.chunkAddr)
  | .wrSendData => some (.dataFrame, dataFrame s.chunkPayload)
  | .idle | .syClear | .syWait | .giAck | .giLen | .giData | .giFinal | .erAckCmd | .erAckSel | .upNext => none
  | .wrAckCmd | .wrAckAddr | .wrAckData => none

/-- The response byte that waits at the front of `RXQ` at a step that reads one `RESP` (R86). -/
def State.respToRead (s : State) : Option (Format × List Byte) :=
  if s.seq.readsResp then
    match s.rxq with
    | b :: _ => some (.resp, [b])
    | [] => none
  else none

/-- The whole `IDRESP` unit at the front of `RXQ` at `GI_ACK` (R63): its second byte declares its length (R66). -/
def State.idRespToRead (s : State) : Option (Format × List Byte) :=
  match s.seq, s.rxq with
  | .giAck, _ :: n :: _ =>
    match decode .idResp (s.rxq.take (n.toNat + 4)) with
    | .ok _ => some (.idResp, s.rxq.take (n.toNat + 4))
    | .error _ => none
  | _, _ => none

/-- The unit that the next turn presents to the decoder, if it presents one. -/
def State.fetch (s : State) : Option (Format × List Byte) :=
  match s.nextAction with
  | .hostWrite addr width v => if addr = 0x000#32 ∧ width = 32 then some (.hostCmd, wordBytes v) else none
  | .engine =>
    match s.frameToSend with
    | some u => some u
    | none => s.respToRead
  | .idResponse => s.idRespToRead
  | .hostRead _ _ | .linkPush _ | .timeout | .powerOn => none

/-- An engine step that presents no unit (R28): the clear of `SY_CLEAR` (R47, R93), `UP_NEXT` (R112), the raw reads of
`GI_LEN` and `GI_DATA` (R100). In IDLE, and while a read waits for bytes, the engine stays as it is. -/
def engineTurn (s : State) : StepResult :=
  match s.seq with
  | .syClear => .next (s.clearInput.goto .sySend)
  | .upNext => upNext s
  | .giLen | .giData => recvData s
  | .idle | .sySend | .syWait | .giSend | .giAck | .giFinal | .erSendCmd | .erAckCmd | .erSendSel | .erAckSel => .next s
  | .wrSendCmd | .wrAckCmd | .wrSendAddr | .wrAckAddr | .wrSendData | .wrAckData => .next s

/-- A turn that presents no unit to the decoder. -/
def takeTurn (a : Action) (s : State) : StepResult :=
  match a with
  | .hostWrite addr width v => .next (s.hostWrite addr width v)
  | .hostRead addr width => .next (s.hostRead addr width)
  | .linkPush b => .next { s with rxq := s.rxq ++ [b] }
  | .engine => engineTurn s
  | .idResponse => .next s
  | .timeout => recvTimeout s
  | .powerOn => .next s.powerOn

/-- The word whose bytes are given, for a `CMD` write. -/
def unitWord : List Byte → Word
  | [b3, b2, b1, b0] => bytesWord b3 b2 b1 b0
  | _ => 0#32

/-- The engine stands at step `q` of operation `op`, and the next turn is its own. -/
def State.atStep (s : State) (op : HostOp) (q : Seq) : State :=
  { s with busy := true, op := op.code, seq := q, sched := .engine :: s.sched }

/-- The state in which the very next step fetches and runs `i`: a command is the next host write; a frame stands at the
sequencer step that sends it, with its operand in `CHUNK_ADDR` or in the image; a read unit waits at the front of `RXQ`
at a step that reads it. notes/assumptions/10.md. -/
def State.present (s : State) (i : Instr) : State :=
  match i with
  | .sync _ | .getId _ | .eraseAll _ | .upload _ | .newSession _ =>
    { s with sched := .hostWrite 0x000#32 32 (unitWord (encode i)) :: s.sched }
  | .reserved0 _ | .reserved67 _ _ | .reserved8F _ _ =>
    { s with sched := .hostWrite 0x000#32 32 (unitWord (encode i)) :: s.sched }
  | .init => s.atStep .sync .sySend
  | .cmdGetId => s.atStep .getId .giSend
  | .cmdExtendedErase => s.atStep .eraseAll .erSendCmd
  | .massEraseSelector => s.atStep .eraseAll .erSendSel
  | .cmdWriteMemory => s.atStep .upload .wrSendCmd
  | .addressFrame addr => { s.atStep .upload .wrSendAddr with chunkAddr := addr }
  | .dataFrame p =>
    { s.atStep .upload .wrSendData with
      chunkLen := BitVec.ofNat 9 p.length
      mem := writeBytes s.mem (imgBase + s.bytesWritten.toNat) p }
  | .respAck | .respNack | .respOther _ =>
    { s.atStep .sync .syWait with rxq := encode i ++ s.rxq }
  | .getidResponse _ =>
    { s.atStep .getId .giAck with rxq := encode i ++ s.rxq, sched := .idResponse :: s.sched }

end Sys2Proof.Machine
end

