-- ==== Sys2Proof/Machine/Step.lean ====
section
/-! DEFINITION. Machine/Step.lean: one atomic step of one agent (R8, R49): the next turn's unit is fetched, decoded and
executed; a turn that presents no unit is taken as it is. -/

namespace Sys2Proof.Machine

/-- One step. The only unit the decoder can reject is a data frame whose payload is outside 1 to 256 bytes (R80). -/
def step (s : State) : Host.Outcome State Fault Refusal :=
  match s.fetch with
  | none => takeTurn s.nextAction s.popTurn
  | some u =>
    match decode u.1 u.2 with
    | .ok i => exec i s.popTurn
    | .error _ => .refused .payloadLength

/-- `s` with the instruction of a table word placed where `step` fetches its next unit. -/
def State.withFetchWord (s : State) (nbits w : Nat) : State :=
  match decodeTableWord nbits w with
  | none => s
  | some i => s.present i

end Sys2Proof.Machine
end

