-- ==== Sys2Proof/Safety.lean ====
section
/-! DEFINITION. Safety.lean: what every reachable state satisfies, in the terms the statements use. Each part is read
from a rule of the spec; `Inv` is their conjunction. -/

namespace Sys2Proof.Safety

open Sys2Proof.Machine

/-- The operation to which a sequencer step belongs (R28); none for IDLE. -/
def operation : Seq → Option HostOp
  | .idle => none
  | .syClear | .sySend | .syWait => some .sync
  | .giSend | .giAck | .giLen | .giData | .giFinal => some .getId
  | .erSendCmd | .erAckCmd | .erSendSel | .erAckSel => some .eraseAll
  | .upNext | .wrSendCmd | .wrAckCmd | .wrSendAddr | .wrAckAddr | .wrSendData | .wrAckData => some .upload

/-- The steps of the WRITE MEMORY sequence (R105, R108). -/
def writing : Seq → Bool
  | .wrSendCmd | .wrAckCmd | .wrSendAddr | .wrAckAddr | .wrSendData | .wrAckData => true
  | .idle | .syClear | .sySend | .syWait | .giSend | .giAck | .giLen | .giData | .giFinal => false
  | .erSendCmd | .erAckCmd | .erSendSel | .erAckSel | .upNext => false

/-- "`STATUS.BUSY` is 1 exactly when `seq ≠ IDLE`" (R28, R32). -/
def BusyIffRunning (s : State) : Prop := s.busy = true ↔ s.seq ≠ .idle

/-- `OP` is the code of the running operation (R29) and `RESULT` is NONE while one runs (R19). -/
def OperationRecorded (s : State) : Prop :=
  ∀ op, operation s.seq = some op → s.op = op.code ∧ s.result = .none

/-- The session in which each operation runs (R92, R96, R101, R109, R112), and "a host never sees PROGRAMMING while
idle" (R119). -/
def SessionFits (s : State) : Prop :=
  match operation s.seq with
  | none => s.session ≠ .programming
  | some .sync => s.session = .uninitialized
  | some .getId => s.session = .synchronized ∧ s.idValid = false
  | some .eraseAll => s.session = .synchronized
  | some .upload =>
    if writing s.seq then s.session = .programming
    else s.session = .programming ∨ (s.session = .erased ∧ s.bytesWritten = 0#32)
  | some .newSession => False

/-- While UPLOAD runs its operands stay legal and `BYTES_WRITTEN` never exceeds `LEN` (R51, R87, R109). -/
def UploadFits (s : State) : Prop :=
  operation s.seq = some .upload →
    s.bytesWritten.toNat ≤ s.len.toNat ∧ s.len.toNat ≤ Config.imageMax ∧ s.base.toNat + s.len.toNat ≤ 2 ^ 32

/-- While a chunk is written, `CHUNK_LEN` and `CHUNK_ADDR` are that chunk's length and address (R110, R112). -/
def ChunkFits (s : State) : Prop :=
  writing s.seq = true →
    s.bytesWritten.toNat < s.len.toNat ∧
    s.chunkLen.toNat = min 256 (s.len.toNat - s.bytesWritten.toNat) ∧
    s.chunkAddr.toNat = s.base.toNat + s.bytesWritten.toNat

/-- `CHIPID_LEN` is 0 before an identifier is received and 1 to 256 after (R24, R32); at `GI_FINAL` `IDTMP` holds `n + 1`
bytes (R100). -/
def IdentifierFits (s : State) : Prop :=
  (s.idValid = false → s.chipidLen = 0#9) ∧
  (s.idValid = true → 1 ≤ s.chipidLen.toNat ∧ s.chipidLen.toNat ≤ 256) ∧
  (s.seq = .giFinal → s.idtmp.length = s.idn.toNat + 1)

/-- A `CHIPID` byte at or beyond `CHIPID_LEN` reads `0x00` (R38). -/
def ChipidTailZero (s : State) : Prop :=
  ∀ i, s.chipidLen.toNat ≤ i → i < 256 → readByte s.mem (chipidBase + i) = some 0x00#8

/-- The failure record is set exactly in FAILED (R19, R27, R129, R132). -/
def FailureRecorded (s : State) : Prop :=
  (s.session = .failed ↔ s.failStage ≠ .none) ∧ (s.session = .failed ↔ s.failKind ≠ none) ∧
  (s.session ≠ .failed → s.failAddr = 0#32)

/-- Memory is canonical and lists only bytes of the two windows (R35). -/
def MemoryFits (s : State) : Prop :=
  s.mem.wf ∧ ∀ c ∈ s.mem, inChipid c.1 = true ∨ inImg c.1 = true

/-- What every state that a run reaches satisfies. -/
def Inv (s : State) : Prop :=
  BusyIffRunning s ∧ OperationRecorded s ∧ SessionFits s ∧ UploadFits s ∧ ChunkFits s ∧ IdentifierFits s ∧
  ChipidTailZero s ∧ FailureRecorded s ∧ MemoryFits s

/-- A safe step: it answers a next state, neither a fault nor a refusal. -/
def StepsOn (s : State) : Prop := ∃ t, step s = .next t

/-- The stage of each sequencer step that reads (R127). -/
def stageOf : Seq → Option Stage
  | .syWait => some .sync
  | .giAck => some .getidCmd
  | .giLen => some .getidLen
  | .giData => some .getidData
  | .giFinal => some .getidFinal
  | .erAckCmd => some .eraseCmd
  | .erAckSel => some .eraseSel
  | .wrAckCmd => some .writeCmd
  | .wrAckAddr => some .writeAddr
  | .wrAckData => some .writeData
  | .idle | .syClear | .sySend | .giSend | .erSendCmd | .erSendSel | .upNext => none
  | .wrSendCmd | .wrSendAddr | .wrSendData => none

/-- The error kind of a timed-out read (R97, R128): `Desync` at `GI_DATA` and `GI_FINAL`, else `NoResponse`. -/
def timeoutKind (q : Seq) : ErrorKind := if q = .giData ∨ q = .giFinal then .desync else .noResponse

/-- The error kind of `0x1F` at an acknowledgement stage (R128): `UnexpectedByte` at SYNC, else `Nack`. -/
def nackKind (q : Seq) : ErrorKind := if q = .syWait then .unexpectedByte else .nack

/-- A host access of the width and alignment of its region, at a mapped address that is not reserved (R17, R36 to R39). -/
def ProperAccess (addr : Word) (width : Nat) : Prop :=
  (addr.toNat < 0x28 ∧ addr.toNat % 4 = 0 ∧ width = 32) ∨
  (0x100 ≤ addr.toNat ∧ addr.toNat < 0x200 ∧ width = 8) ∨
  (0x10000 ≤ addr.toNat ∧ addr.toNat < 0x10000 + Config.imageMax ∧ width = 8)

/-- The next turn asserts power-on reset, or writes the code of NEW_SESSION to `CMD` while no operation runs: the two
events that start a session over (R27, R132). -/
def StartsOver (s : State) : Prop :=
  s.nextAction = .powerOn ∨
  ∃ w : Word, s.nextAction = .hostWrite 0x000#32 32 w ∧ w.extractLsb' 0 4 = 0x5#4 ∧ s.busy = false

/-- The frames BLPE can send (R54, R59, R70): the encodings of the seven BLPE-to-device rows. -/
def IsSentFrame (f : List Byte) : Prop :=
  ∃ i : Instr, i.wf = true ∧ encode i = f ∧
    (i.format = .init ∨ i.format = .cmdFrame ∨ i.format = .selFrame ∨ i.format = .addrFrame ∨ i.format = .dataFrame)

end Sys2Proof.Safety
end

