-- ==== Sys2Proof/Certificates/Slice0/Obligations.lean ====
section
/-! DEFINITION. Certificates/Slice0/Obligations.lean: the statements for the provers. Each docstring names the rules of
spec/ that the statement formalises or rests on. -/

open Sys2Proof Sys2Proof.Machine Sys2Proof.Safety

/-! ## Encoding -/

/-- Decoding the encoding of a well-formed instruction gives it back, for every row and every operand (R54 to R66). -/
def Obligations.DecodeOfEncodeIsTheInstruction : Prop :=
  ∀ i : Instr, i.wf = true → decode i.format (encode i) = .ok i

/-- Bytes that decode are exactly the encoding of what they decode to, in its own format, and it is well-formed. -/
def Obligations.EncodeOfDecodeIsTheBytes : Prop :=
  ∀ (f : Format) (bs : List Byte) (i : Instr), decode f bs = .ok i →
    i.format = f ∧ i.wf = true ∧ encode i = bs

/-- Units written out from R55 to R63 and the source's examples decode to the instructions they stand for. R55 gives a
`HOSTCMD` unit as one 32-bit value and no byte order: that the three `HOSTCMD` clauses write that value as four bytes,
most significant byte first, is the model's choice (log entry 3). -/
def Obligations.WrittenUnitsDecode : Prop :=
  decode .hostCmd [0x00#8, 0x00#8, 0x00#8, 0x04#8] = .ok (.upload 0#28) ∧
  decode .hostCmd [0x00#8, 0x00#8, 0x00#8, 0x31#8] = .ok (.sync 3#28) ∧
  decode .hostCmd [0xFF#8, 0xFF#8, 0xFF#8, 0xF7#8] = .ok (.reserved67 1#1 0xFFFFFFF#28) ∧
  decode .init [0x7F#8] = .ok .init ∧
  decode .cmdFrame [0x31#8, 0xCE#8] = .ok .cmdWriteMemory ∧
  decode .cmdFrame [0x43#8, 0xBC#8] = .error .unknownOpcode ∧
  decode .cmdFrame [0x44#8, 0xBA#8] = .error .badComplement ∧
  decode .selFrame [0xFF#8, 0xFF#8, 0x00#8] = .ok .massEraseSelector ∧
  decode .addrFrame [0x08#8, 0x00#8, 0x01#8, 0x00#8, 0x09#8] = .ok (.addressFrame 0x08000100#32) ∧
  decode .dataFrame [0x01#8, 0x12#8, 0x34#8, 0x27#8] = .ok (.dataFrame [0x12#8, 0x34#8]) ∧
  decode .resp [0x1F#8] = .ok .respNack ∧
  decode .idResp [0x79#8, 0x01#8, 0x04#8, 0x13#8, 0x79#8] = .ok (.getidResponse [0x04#8, 0x13#8])

/-- Bits [31:4] of the word written to `CMD` are ignored: two words with the same `OP` do the same (R55). -/
def Obligations.CommandIgnoresUpperBits : Prop :=
  ∀ (w w' : Word) (s : State), w.extractLsb' 0 4 = w'.extractLsb' 0 4 →
    exec (decodeHostWord w) s = exec (decodeHostWord w') s

/-! ## Framing unit -/

/-- The four laws of R88. -/
def Obligations.ChecksumLaws : Prop :=
  (∀ c : Byte, commandChecksum (commandChecksum c) = c) ∧
  (∀ p : List Byte, 1 ≤ p.length → p.length ≤ 256 → xorFold (dataFrame p) = 0x00#8) ∧
  (∀ (a a' : Word) (k : Nat), k < 4 → a.extractLsb' (8 * k) 8 ≠ a'.extractLsb' (8 * k) 8 →
    (∀ j, j < 4 → j ≠ k → a.extractLsb' (8 * j) 8 = a'.extractLsb' (8 * j) 8) →
    addressChecksum a ≠ addressChecksum a') ∧
  (∀ (l : Byte) (p : List Byte), blockChecksum l p ^^^ blockChecksum l p = 0x00#8)

/-- The validators of R82 and R84 accept exactly the frames that the builders of R78, R79 and R80 build. -/
def Obligations.ValidatorsAcceptExactlyBuiltFrames : Prop :=
  ∀ f : List Byte,
    (validateCommandFrame f = true ↔ ∃ c, f = commandFrame c) ∧
    (validateAddressFrame f = true ↔ ∃ a, f = addressFrame a) ∧
    (validateDataFrame f = true ↔ ∃ p : List Byte, 1 ≤ p.length ∧ p.length ≤ 256 ∧ f = dataFrame p)

/-- `DecodeResponse` (R85). -/
def Obligations.ResponseDecoderCases : Prop :=
  decodeResponse [] = .timeout ∧
  ∀ (b : Byte) (r : List Byte),
    (b = 0x79#8 → decodeResponse (b :: r) = .ack) ∧
    (b = 0x1F#8 → decodeResponse (b :: r) = .nack) ∧
    (b ≠ 0x79#8 → b ≠ 0x1F#8 → decodeResponse (b :: r) = .other b)

/-! ## The step -/

/-- A step runs the decoded instruction: where the next turn presents a unit that decodes to `i`, `step` is `exec i` on
the state with that turn taken out of the schedule, and nothing else about it changed. -/
def Obligations.StepRunsTheDecodedInstruction : Prop :=
  ∀ (s : State) (f : Format) (bs : List Byte) (i : Instr),
    s.fetch = some (f, bs) → decode f bs = .ok i → step s = exec i { s with sched := s.sched.tail }

/-- An aligned 32-bit host write to `CMD` presents its word, so it runs the operation its bits [3:0] name (R55, R117). -/
def Obligations.CommandWriteRunsItsOperation : Prop :=
  ∀ (s : State) (w : Word) (rest : List Action), s.sched = .hostWrite 0x000#32 32 w :: rest →
    step s = exec (decodeHostWord w) { s with sched := rest }

/-- Each sequencer step that sends presents the frame R28 names for it, and each step that reads one `RESP` the byte at
the front of `RXQ`: an engine turn runs exactly that instruction. -/
def Obligations.EngineTurnRunsTheDueUnit : Prop :=
  ∀ (s : State) (rest : List Action), s.sched = .engine :: rest →
    (s.seq = .sySend → step s = exec .init { s with sched := rest }) ∧
    (s.seq = .giSend → step s = exec .cmdGetId { s with sched := rest }) ∧
    (s.seq = .erSendCmd → step s = exec .cmdExtendedErase { s with sched := rest }) ∧
    (s.seq = .erSendSel → step s = exec .massEraseSelector { s with sched := rest }) ∧
    (s.seq = .wrSendCmd → step s = exec .cmdWriteMemory { s with sched := rest }) ∧
    (s.seq = .wrSendAddr → step s = exec (.addressFrame s.chunkAddr) { s with sched := rest }) ∧
    (s.seq = .wrSendData → 1 ≤ s.chunkLen.toNat → s.chunkLen.toNat ≤ 256 →
      step s = exec (.dataFrame s.chunkPayload) { s with sched := rest }) ∧
    (∀ (b : Byte) (q : List Byte), s.seq.readsResp = true → s.rxq = b :: q →
      (b = 0x79#8 → step s = exec .respAck { s with sched := rest }) ∧
      (b = 0x1F#8 → step s = exec .respNack { s with sched := rest }) ∧
      (b ≠ 0x79#8 → b ≠ 0x1F#8 → step s = exec (.respOther b) { s with sched := rest }))

/-- Engine turns that present no unit: nothing in IDLE (R28), `ClearInput` at `SY_CLEAR` (R47, R93), the length byte at
`GI_LEN` and the identifier at `GI_DATA` (R100). -/
def Obligations.EngineTurnsWithoutUnit : Prop :=
  ∀ (s : State) (rest : List Action), s.sched = .engine :: rest →
    (s.seq = .idle → step s = .next { s with sched := rest }) ∧
    (s.seq = .syClear → step s = .next { s with sched := rest, rxq := [], seq := .sySend }) ∧
    (∀ (n : Byte) (q : List Byte), s.seq = .giLen → s.rxq = n :: q →
      step s = .next { s with sched := rest, rxq := q, idn := n, seq := .giData }) ∧
    (s.seq = .giData → s.idn.toNat + 1 ≤ s.rxq.length →
      step s = .next { s with
        sched := rest, rxq := s.rxq.drop (s.idn.toNat + 1), idtmp := s.rxq.take (s.idn.toNat + 1), seq := .giFinal })

/-- While fewer bytes wait than the pending read asks for, the engine keeps waiting (R45 RecvData: "enabled when
len(RXQ) >= n"). -/
def Obligations.EngineWaitsForTheRead : Prop :=
  ∀ (s : State) (rest : List Action) (n : Nat) (t : Timer), s.sched = .engine :: rest →
    s.pendingRead = some (n, t) → s.rxq.length < n → step s = .next { s with sched := rest }

/-- A timeout turn ends the pending read short, with every waiting byte taken, and fails its stage with the kind R128
gives (R45, R97, R127, R128). R45 says only that the link may not fire a timeout while `n` or more bytes wait, and gives
none where no read is pending: that such a turn does nothing is the model's choice (log entry 4). -/
def Obligations.TimeoutFailsTheStage : Prop :=
  ∀ (s : State) (rest : List Action), s.sched = .timeout :: rest →
    (∀ (n : Nat) (t : Timer) (stage : Stage), s.pendingRead = some (n, t) → stageOf s.seq = some stage →
      (s.rxq.length < n →
        step s = .next (State.fail { s with sched := rest, rxq := [] } stage (timeoutKind s.seq))) ∧
      (n ≤ s.rxq.length → step s = .next { s with sched := rest })) ∧
    (s.pendingRead = none → step s = .next { s with sched := rest })

/-- Every read names the timeout register of R135, asks for 1 to 256 bytes (R45), and has a stage (R127). -/
def Obligations.EveryReadHasItsTimeoutRegister : Prop :=
  ∀ s : State,
    (∀ n t, s.pendingRead = some (n, t) →
      1 ≤ n ∧ n ≤ 256 ∧ (t = .terase ↔ s.seq = .erAckSel) ∧ (stageOf s.seq).isSome = true) ∧
    (s.pendingRead = none → stageOf s.seq = none)

/-- The link only appends to `RXQ` (R46). -/
def Obligations.LinkPushAppendsToTheQueue : Prop :=
  ∀ (s : State) (b : Byte) (rest : List Action), s.sched = .linkPush b :: rest →
    step s = .next { s with sched := rest, rxq := s.rxq ++ [b] }

/-! ## Host accesses -/

/-- While `BUSY = 1` every host write is ignored, reads are not blocked, and no step but a power-on reset changes `BASE`,
`LEN`, `TACK`, `TERASE` or an image byte (R51). -/
def Obligations.BusyBlocksHostWrites : Prop :=
  ∀ s : State, s.busy = true →
    (∀ (addr v : Word) (width : Nat) (rest : List Action), s.sched = .hostWrite addr width v :: rest →
      step s = .next { s with sched := rest }) ∧
    (∀ (addr : Word) (width : Nat), addr ≠ 0x004#32 →
      s.hostReadValue addr width = State.hostReadValue { s with busy := false } addr width) ∧
    (∀ t : State, step s = .next t → s.nextAction ≠ .powerOn →
      t.base = s.base ∧ t.len = s.len ∧ t.tack = s.tack ∧ t.terase = s.terase ∧
      ∀ i, readByte t.mem (imgBase + i) = readByte s.mem (imgBase + i))

/-- An access to an unmapped address or a reserved offset, or of the wrong width or alignment for its region, has no
effect: a write is ignored and a read returns 0 (R39). -/
def Obligations.ImproperAccessHasNoEffect : Prop :=
  ∀ (s : State) (addr v : Word) (width : Nat) (rest : List Action), ¬ ProperAccess addr width →
    (s.sched = .hostWrite addr width v :: rest → step s = .next { s with sched := rest }) ∧
    (s.sched = .hostRead addr width :: rest → step s = .next { s with sched := rest, rdata := 0#32 })

/-- A host read gives the host a value and changes no state of the spec (R40); only the model's own `rdata` and `draws`
and the schedule change. -/
def Obligations.HostReadHasNoSideEffect : Prop :=
  ∀ (s : State) (addr : Word) (width : Nat) (rest : List Action), s.sched = .hostRead addr width :: rest →
    ∃ (v : Word) (d : Nat), step s = .next { s with sched := rest, rdata := v, draws := d }

/-- Every register reads as R17 to R26 say: `CMD` as 0, `IMGMAX` as `IMAGE_MAX`, the others as they hold. -/
def Obligations.RegisterReadsReturnTheRegister : Prop :=
  ∀ (s : State) (r : HostReg) (rest : List Action), s.sched = .hostRead r.offset 32 :: rest →
    ∃ v : Word, step s = .next { s with sched := rest, rdata := v } ∧
      (r = .cmd → v = 0#32) ∧ (r = .status → v = s.status) ∧ (r = .base → v = s.base) ∧ (r = .len → v = s.len) ∧
      (r = .failAddr → v = s.failAddr) ∧ (r = .bytesWritten → v = s.bytesWritten) ∧
      (r = .chipidLen → v = s.chipidLen.setWidth 32) ∧ (r = .tack → v = s.tack) ∧ (r = .terase → v = s.terase) ∧
      (r = .imgmax → v.toNat = Config.imageMax)

/-- A 32-bit write to `BASE`, `LEN`, `TACK` or `TERASE` while idle stores the value as written, and one to a read-only
register is ignored (R17, R20, R21, R25). -/
def Obligations.RegisterWritesStoreTheValue : Prop :=
  ∀ (s : State) (r : HostReg) (v : Word) (rest : List Action), s.busy = false →
    s.sched = .hostWrite r.offset 32 v :: rest →
    (r = .base → step s = .next { s with sched := rest, base := v }) ∧
    (r = .len → step s = .next { s with sched := rest, len := v }) ∧
    (r = .tack → step s = .next { s with sched := rest, tack := v }) ∧
    (r = .terase → step s = .next { s with sched := rest, terase := v }) ∧
    ((r = .status ∨ r = .failAddr ∨ r = .bytesWritten ∨ r = .chipidLen ∨ r = .imgmax) →
      step s = .next { s with sched := rest })

/-- The fields of `STATUS` and its reserved bits (R19). -/
def Obligations.StatusFieldsAreWhereTheSpecPutsThem : Prop :=
  ∀ s : State,
    s.status.getLsbD 0 = s.busy ∧ s.status.extractLsb' 1 3 = s.session.code ∧ s.status.getLsbD 4 = s.idValid ∧
    s.status.extractLsb' 5 3 = 0#3 ∧ s.status.extractLsb' 8 4 = s.result.code ∧
    s.status.extractLsb' 12 4 = failKindCode s.failKind ∧ s.status.extractLsb' 16 4 = s.failStage.code ∧
    s.status.extractLsb' 20 12 = 0#12

/-- An 8-bit write in the image window while idle sets that image byte, which the host then reads back; every other byte
reads as before (R37). -/
def Obligations.ImageWriteThenReadReturnsTheByte : Prop :=
  ∀ (s : State) (addr v : Word) (rest : List Action), s.busy = false →
    0x10000 ≤ addr.toNat → addr.toNat < 0x10000 + Config.imageMax → s.sched = .hostWrite addr 8 v :: rest →
    ∃ m : Memory, step s = .next { s with sched := rest, mem := m } ∧
      readByte m addr.toNat = some (v.setWidth 8) ∧
      (∀ a, a ≠ addr.toNat → readByte m a = readByte s.mem a) ∧
      ∀ rest', step { s with sched := .hostRead addr 8 :: rest', mem := m } =
        .next { s with sched := rest', mem := m, rdata := (v.setWidth 8).setWidth 32 }

/-- A read of an image byte that nothing has written is a free draw, a new one at each read (R31, R37). The draw is
`Config.freeByte`, of which nothing is known; that the draws are numbered is the model's form (log entry 2). -/
def Obligations.UnwrittenImageByteReadsAsAFreeDraw : Prop :=
  ∀ (s : State) (addr : Word) (rest : List Action),
    0x10000 ≤ addr.toNat → addr.toNat < 0x10000 + Config.imageMax → readByte s.mem addr.toNat = none →
    s.sched = .hostRead addr 8 :: rest →
    step s = .next { s with
      sched := rest, rdata := (Config.freeByte s.draws).setWidth 32, draws := s.draws + 1 }

/-- A byte read in the `CHIPID` window returns the buffer's byte, `0x00` at or beyond `CHIPID_LEN`; a write there is
ignored (R38). -/
def Obligations.ChipidWindowReadsTheIdentifier : Prop :=
  ∀ (s : State) (i : Nat) (rest : List Action), Inv s → i < 256 →
    (s.sched = .hostRead (BitVec.ofNat 32 (0x100 + i)) 8 :: rest →
      ∃ b : Byte, readByte s.mem (chipidBase + i) = some b ∧
        step s = .next { s with sched := rest, rdata := b.setWidth 32 } ∧
        (s.chipidLen.toNat ≤ i → b = 0x00#8)) ∧
    (∀ (width : Nat) (v : Word), s.sched = .hostWrite (BitVec.ofNat 32 (0x100 + i)) width v :: rest →
      step s = .next { s with sched := rest })

/-! ## Host commands -/

/-- Acceptance of SYNC, GET_ID, ERASE_ALL and UPLOAD, in the sessions where R119 accepts them (R118). -/
def Obligations.AcceptedOperationStarts : Prop :=
  ∀ (s : State) (w : BitVec 28), s.busy = false →
    (s.session = .uninitialized →
      exec (.sync w) s = .next { s with result := .none, op := 1#4, busy := true, seq := .syClear }) ∧
    (s.session = .synchronized → s.idValid = false →
      exec (.getId w) s = .next { s with result := .none, op := 2#4, busy := true, seq := .giSend }) ∧
    (s.session = .synchronized →
      exec (.eraseAll w) s = .next { s with result := .none, op := 3#4, busy := true, seq := .erSendCmd }) ∧
    (s.session = .erased → s.len.toNat ≤ Config.imageMax → s.base.toNat + s.len.toNat ≤ 2 ^ 32 →
      exec (.upload w) s =
        .next { s with result := .none, op := 4#4, busy := true, seq := .upNext, bytesWritten := 0#32 })

/-- A refused operation sets `RESULT` and changes nothing else; the code is the one the first applying check of R119
gives. -/
def Obligations.RefusedOperationSetsOnlyResult : Prop :=
  ∀ (s : State) (w : BitVec 28), s.busy = false →
    (s.session = .complete ∨ s.session = .failed →
      ∀ i, i = .sync w ∨ i = .getId w ∨ i = .eraseAll w ∨ i = .upload w →
        exec i s = .next { s with result := .sessionClosed }) ∧
    (s.session = .synchronized ∨ s.session = .erased ∨ s.session = .programming →
      exec (.sync w) s = .next { s with result := .contractError }) ∧
    (s.session = .uninitialized ∨ s.session = .erased ∨ s.session = .programming ∨
        (s.session = .synchronized ∧ s.idValid = true) →
      exec (.getId w) s = .next { s with result := .contractError }) ∧
    (s.session = .uninitialized ∨ s.session = .erased ∨ s.session = .programming →
      exec (.eraseAll w) s = .next { s with result := .contractError }) ∧
    (s.session = .uninitialized ∨ s.session = .synchronized ∨ s.session = .programming →
      exec (.upload w) s = .next { s with result := .contractError }) ∧
    (s.session = .erased → (Config.imageMax < s.len.toNat ∨ 2 ^ 32 < s.base.toNat + s.len.toNat) →
      exec (.upload w) s = .next { s with result := .contractError })

/-- A reserved code is refused with `CONTRACT_ERROR` in every session and changes no other state (R68). -/
def Obligations.ReservedCodeIsRefused : Prop :=
  ∀ (s : State) (w : BitVec 28) (l1 : BitVec 1) (l3 : BitVec 3), s.busy = false →
    exec (.reserved0 w) s = .next { s with result := .contractError } ∧
    exec (.reserved67 l1 w) s = .next { s with result := .contractError } ∧
    exec (.reserved8F l3 w) s = .next { s with result := .contractError }

/-- Any write to `CMD` while an operation runs is ignored (R117). -/
def Obligations.CommandWhileBusyIsIgnored : Prop :=
  ∀ (s : State) (i : Instr), i.format = .hostCmd → s.busy = true → exec i s = .next s

/-- NEW_SESSION (R121): what it writes, the identifier buffer all zero, and everything else as it was, the image bytes
among it. -/
def Obligations.NewSessionStartsOver : Prop :=
  ∀ (s : State) (w : BitVec 28), s.busy = false →
    ∃ m : Memory,
      exec (.newSession w) s = .next { s with
        session := .uninitialized, idValid := false, failKind := none, failStage := .none, failAddr := 0#32,
        bytesWritten := 0#32, chipidLen := 0#9, mem := m, idtmp := [], result := .ok } ∧
      (∀ i, i < 256 → readByte m (chipidBase + i) = some 0x00#8) ∧
      (∀ a, a < 0x100 ∨ 0x200 ≤ a → readByte m a = readByte s.mem a)

/-! ## Frames sent -/

/-- The five constant frames: the bytes each appends to `TXLOG`, the next step, and for ERASE_ALL the event (R93, R100,
R104, R108). Nothing else changes, memory included. -/
def Obligations.ConstantFrameIsSentAtItsStep : Prop :=
  ∀ s : State,
    (s.seq = .sySend → exec .init s = .next { s with txlog := s.txlog ++ [0x7F#8], seq := .syWait }) ∧
    (s.seq = .giSend → exec .cmdGetId s = .next { s with txlog := s.txlog ++ [0x02#8, 0xFD#8], seq := .giAck }) ∧
    (s.seq = .erSendCmd → exec .cmdExtendedErase s = .next { s with
      evlog := s.evlog ++ [.eraseStarted], txlog := s.txlog ++ [0x44#8, 0xBB#8], seq := .erAckCmd }) ∧
    (s.seq = .erSendSel → exec .massEraseSelector s = .next { s with
      txlog := s.txlog ++ [0xFF#8, 0xFF#8, 0x00#8], seq := .erAckSel }) ∧
    (s.seq = .wrSendCmd → exec .cmdWriteMemory s = .next { s with
      txlog := s.txlog ++ [0x31#8, 0xCE#8], seq := .wrAckCmd })

/-- The address frame: `CHUNK_ADDR` big-endian and its checksum (R43, R61, R79, R108). Nothing else changes. -/
def Obligations.AddressFrameIsSentAtItsStep : Prop :=
  ∀ s : State, s.seq = .wrSendAddr →
    exec (.addressFrame s.chunkAddr) s = .next { s with
      txlog := s.txlog ++ [s.chunkAddr.extractLsb' 24 8, s.chunkAddr.extractLsb' 16 8, s.chunkAddr.extractLsb' 8 8,
        s.chunkAddr.extractLsb' 0 8,
        s.chunkAddr.extractLsb' 24 8 ^^^ s.chunkAddr.extractLsb' 16 8 ^^^ s.chunkAddr.extractLsb' 8 8 ^^^
          s.chunkAddr.extractLsb' 0 8]
      seq := .wrAckAddr }

/-- The data frame: `CHUNK_LEN − 1`, the chunk's image bytes in order, and the checksum (R43, R62, R65, R108). A written
image byte is sent as it is; an unwritten one is a free draw. Memory and every register but `seq` are unchanged. -/
def Obligations.DataFrameIsSentAtItsStep : Prop :=
  ∀ s : State, s.seq = .wrSendData →
    s.chunkPayload.length = s.chunkLen.toNat ∧
    (∀ (j : Nat) (b : Byte), j < s.chunkLen.toNat →
      readByte s.mem (imgBase + (s.bytesWritten.toNat + j)) = some b → s.chunkPayload[j]? = some b) ∧
    ∃ d : Nat, exec (.dataFrame s.chunkPayload) s = .next { s with
      txlog := s.txlog ++ (BitVec.ofNat 8 (s.chunkLen.toNat - 1) :: (s.chunkPayload ++
        [s.chunkPayload.foldl (· ^^^ ·) (BitVec.ofNat 8 (s.chunkLen.toNat - 1))]))
      seq := .wrAckData
      draws := d }

/-- A frame or a read unit that is not due at the current step leaves the state as it is. This is the model's choice
(log entry 9): R28 names the one action of each step, and the spec gives a frame no effect at another. -/
def Obligations.UnitNotDueDoesNothing : Prop :=
  ∀ s : State,
    (s.seq ≠ .sySend → exec .init s = .next s) ∧
    (s.seq ≠ .giSend → exec .cmdGetId s = .next s) ∧
    (s.seq ≠ .erSendCmd → exec .cmdExtendedErase s = .next s) ∧
    (s.seq ≠ .erSendSel → exec .massEraseSelector s = .next s) ∧
    (s.seq ≠ .wrSendCmd → exec .cmdWriteMemory s = .next s) ∧
    (∀ a, s.seq ≠ .wrSendAddr ∨ a ≠ s.chunkAddr → exec (.addressFrame a) s = .next s) ∧
    (∀ p, s.seq ≠ .wrSendData ∨ p ≠ s.chunkPayload → exec (.dataFrame p) s = .next s) ∧
    (s.seq.readsResp = false ∨ s.rxq.head? ≠ some 0x79#8 → exec .respAck s = .next s) ∧
    (s.seq.readsResp = false ∨ s.rxq.head? ≠ some 0x1F#8 → exec .respNack s = .next s) ∧
    (∀ b, s.seq.readsResp = false ∨ s.rxq.head? ≠ some b → exec (.respOther b) s = .next s) ∧
    (∀ ident, s.seq ≠ .giAck ∨ ¬ (idResponse ident <+: s.rxq) → exec (.getidResponse ident) s = .next s)

/-! ## Responses read -/

/-- ACK at a stage that has a following step of the same operation: the byte is taken and `seq` moves on (R86, R100,
R104, R108). -/
def Obligations.AckMovesToTheNextStep : Prop :=
  ∀ (s : State) (q : List Byte), s.rxq = 0x79#8 :: q →
    (s.seq = .giAck → exec .respAck s = .next { s with rxq := q, seq := .giLen }) ∧
    (s.seq = .erAckCmd → exec .respAck s = .next { s with rxq := q, seq := .erSendSel }) ∧
    (s.seq = .wrAckCmd → exec .respAck s = .next { s with rxq := q, seq := .wrSendAddr }) ∧
    (s.seq = .wrAckAddr → exec .respAck s = .next { s with rxq := q, seq := .wrSendData })

/-- ACK at the last stage of SYNC and of ERASE_ALL: the session moves, the event is emitted, the operation finishes
(R93, R104, R120). -/
def Obligations.AckEndsSyncAndErase : Prop :=
  ∀ (s : State) (q : List Byte), s.rxq = 0x79#8 :: q →
    (s.seq = .syWait → exec .respAck s = .next { s with
      rxq := q, session := .synchronized, evlog := s.evlog ++ [.synchronized], result := .ok, busy := false,
      seq := .idle }) ∧
    (s.seq = .erAckSel → exec .respAck s = .next { s with
      rxq := q, session := .erased, evlog := s.evlog ++ [.eraseComplete], result := .ok, busy := false,
      seq := .idle })

/-- ACK at the data stage accounts the chunk (R113): `BYTES_WRITTEN` grows by `CHUNK_LEN`, exactly, and the
`ChunkWritten` event carries the new count. -/
def Obligations.AckAtTheDataStageAccountsTheChunk : Prop :=
  ∀ (s : State) (q : List Byte), s.seq = .wrAckData → s.rxq = 0x79#8 :: q →
    s.bytesWritten.toNat + s.chunkLen.toNat < 2 ^ 32 →
    ∃ n : Word, n.toNat = s.bytesWritten.toNat + s.chunkLen.toNat ∧
      exec .respAck s = .next { s with
        rxq := q, bytesWritten := n, evlog := s.evlog ++ [.chunkWritten s.chunkAddr s.chunkLen n s.len],
        seq := .upNext }

/-- ACK at GET_ID's final stage stores the identifier (R100): `CHIPID[0 .. IDN] <- IDTMP`, `CHIPID_LEN`, `ID_VALID`, the
event, and `Finish(OK)`; every byte of memory outside `CHIPID[0 .. IDN]` reads as before. -/
def Obligations.FinalAckStoresTheIdentifier : Prop :=
  ∀ (s : State) (q : List Byte), s.seq = .giFinal → s.rxq = 0x79#8 :: q → s.idtmp.length = s.idn.toNat + 1 →
    ∃ (m : Memory) (n : BitVec 9), n.toNat = s.idn.toNat + 1 ∧
      exec .respAck s = .next { s with
        rxq := q, mem := m, chipidLen := n, idValid := true, evlog := s.evlog ++ [.chipIdReceived s.idtmp],
        result := .ok, busy := false, seq := .idle } ∧
      (∀ j, j ≤ s.idn.toNat → readByte m (chipidBase + j) = s.idtmp[j]?) ∧
      (∀ a, a < chipidBase ∨ chipidBase + s.idn.toNat < a → readByte m a = readByte s.mem a)

/-- NACK at any acknowledgement stage takes the byte and fails that stage: with `Nack`, and at SYNC with
`UnexpectedByte` (R86, R93, R100, R127, R128). -/
def Obligations.NackFailsTheStage : Prop :=
  ∀ (s : State) (q : List Byte) (stage : Stage), s.seq.readsResp = true → stageOf s.seq = some stage →
    s.rxq = 0x1F#8 :: q →
    exec .respNack s = .next (State.fail { s with rxq := q } stage (nackKind s.seq))

/-- Any other byte at any acknowledgement stage takes the byte and fails that stage with `UnexpectedByte` (R69, R86,
R128). -/
def Obligations.OtherByteFailsTheStage : Prop :=
  ∀ (s : State) (b : Byte) (q : List Byte) (stage : Stage), s.seq.readsResp = true →
    stageOf s.seq = some stage → b ≠ 0x79#8 → b ≠ 0x1F#8 → s.rxq = b :: q →
    exec (.respOther b) s = .next (State.fail { s with rxq := q } stage .unexpectedByte)

/-- `Fail(stage, kind)`, the failure entry, as R129 writes it out. -/
def Obligations.FailureEntryRecordsTheFailure : Prop :=
  ∀ (s : State) (stage : Stage) (kind : ErrorKind),
    (stage = .writeCmd ∨ stage = .writeAddr ∨ stage = .writeData →
      s.fail stage kind = { s with
        result := .chunkFailed, failAddr := s.chunkAddr,
        evlog := s.evlog ++ [.failed stage (.chunkFailed s.chunkAddr kind)],
        failKind := some kind, failStage := stage, session := .failed, busy := false, seq := .idle }) ∧
    (stage ≠ .writeCmd → stage ≠ .writeAddr → stage ≠ .writeData →
      s.fail stage kind = { s with
        result := kind.result, evlog := s.evlog ++ [.failed stage (.kind kind)],
        failKind := some kind, failStage := stage, session := .failed, busy := false, seq := .idle })

/-- The whole device side of GET ID (R63, R100): ACK, length byte, identifier and ACK at the front of `RXQ` store the
identifier and finish the operation; memory outside `CHIPID[0 .. n]` reads as before. R63 and R100 give four separate
reads: that one `exec` takes all four, with no other agent's step between, is the model's choice (log entry 5). -/
def Obligations.GetidResponseStoresTheIdentifier : Prop :=
  ∀ (s : State) (ident q : List Byte), s.seq = .giAck → 1 ≤ ident.length → ident.length ≤ 256 →
    s.rxq = 0x79#8 :: BitVec.ofNat 8 (ident.length - 1) :: (ident ++ (0x79#8 :: q)) →
    ∃ (m : Memory) (n : BitVec 9), n.toNat = ident.length ∧
      exec (.getidResponse ident) s = .next { s with
        rxq := q, idn := BitVec.ofNat 8 (ident.length - 1), idtmp := ident, mem := m, chipidLen := n,
        idValid := true, evlog := s.evlog ++ [.chipIdReceived ident], result := .ok, busy := false, seq := .idle } ∧
      (∀ j, j < ident.length → readByte m (chipidBase + j) = ident[j]?) ∧
      (∀ a, a < chipidBase ∨ chipidBase + ident.length ≤ a → readByte m a = readByte s.mem a)

/-- The one-turn reading of an `IDRESP` unit is four engine steps in a row, those of `GI_ACK`, `GI_LEN`, `GI_DATA` and
`GI_FINAL` (R63, R99, R100). The turn is the model's own form (log entry 5). -/
def Obligations.GetidResponseIsFourEngineSteps : Prop :=
  ∀ (s : State) (ident : List Byte), s.seq = .giAck → s.sched = [] → 1 ≤ ident.length → ident.length ≤ 256 →
    idResponse ident <+: s.rxq → exec (.getidResponse ident) s = core.run 4 s

/-- No instruction writes an image byte (R31: "The engine only reads it"), and only NEW_SESSION and the storing of an
identifier write the `CHIPID` buffer (R30). -/
def Obligations.InstructionsWriteOnlyTheIdentifierBuffer : Prop :=
  ∀ (i : Instr) (s t : State), i.wf = true → exec i s = .next t →
    (∀ a, inChipid a = false → readByte t.mem a = readByte s.mem a) ∧
    (t.mem ≠ s.mem →
      (∃ w, i = .newSession w) ∨ (i = .respAck ∧ s.seq = .giFinal) ∨ ∃ ident, i = .getidResponse ident)

/-! ## The upload loop -/

/-- Step `UP_NEXT` (R112). -/
def Obligations.UpNextPicksTheNextChunkOrCompletes : Prop :=
  ∀ (s : State) (rest : List Action), s.sched = .engine :: rest → s.seq = .upNext →
    (s.bytesWritten = s.len → step s = .next { s with
      sched := rest, session := .complete, evlog := s.evlog ++ [.uploadComplete s.len], result := .ok,
      busy := false, seq := .idle }) ∧
    (s.bytesWritten.toNat < s.len.toNat → s.base.toNat + s.bytesWritten.toNat < 2 ^ 32 →
      ∃ (n : BitVec 9) (a : Word), n.toNat = min 256 (s.len.toNat - s.bytesWritten.toNat) ∧
        a.toNat = s.base.toNat + s.bytesWritten.toNat ∧
        step s = .next { s with
          sched := rest, chunkLen := n, chunkAddr := a,
          session := if s.session = .erased then .programming else s.session, seq := .wrSendCmd })

/-- `UP_NEXT` computes the upload plan's chunk `i` from `BYTES_WRITTEN` when it reaches it (R110). -/
def Obligations.UpNextFollowsThePlan : Prop :=
  ∀ (s t : State) (i : Nat), Inv s → s.nextAction = .engine → s.seq = .upNext →
    s.bytesWritten.toNat = planOffset i → i < planCount s.len.toNat → step s = .next t →
    t.seq = .wrSendCmd ∧ t.bytesWritten.toNat = planOffset i ∧ t.chunkLen.toNat = planLength s.len.toNat i ∧
    t.chunkAddr.toNat = planAddress s.base.toNat i

/-- The plan invariants (R111), for every `L` and `B` that pass R109. -/
def Obligations.UploadPlanCoversTheImage : Prop :=
  ∀ L B : Nat, L ≤ Config.imageMax → B + L ≤ 2 ^ 32 →
    ((List.range (planCount L)).map (planLength L)).sum = L ∧
    (1 ≤ planCount L → planAddress B 0 = B) ∧
    (∀ i, i + 1 < planCount L → planAddress B (i + 1) = planAddress B i + planLength L i) ∧
    (∀ i, i < planCount L → 1 ≤ planLength L i ∧ planLength L i ≤ 256) ∧
    (∀ n, n < L → ∃ i, (i < planCount L ∧ planOffset i ≤ n ∧ n < planOffset i + planLength L i) ∧
      ∀ j, j < planCount L → planOffset j ≤ n → n < planOffset j + planLength L j → j = i) ∧
    (∀ i, i < planCount L → planOffset i + planLength L i ≤ L) ∧
    (∀ i, i < planCount L → planAddress B i + planLength L i ≤ 2 ^ 32)

/-- An upload whose every stage is acknowledged completes (R112 to R116): with the ACKs waiting, seven engine steps a
chunk and one more end in COMPLETE with `BYTES_WRITTEN = LEN`, the ACKs taken and nine bytes a chunk beside the image
bytes sent. That the engine has every turn when the schedule is empty is the model's form (log entry 4). -/
def Obligations.AcknowledgedUploadCompletes : Prop :=
  ∀ (s : State) (q : List Byte) (k : Nat), Inv s → s.seq = .upNext → s.sched = [] →
    k = planCount (s.len.toNat - s.bytesWritten.toNat) → s.rxq = List.replicate (3 * k) 0x79#8 ++ q →
    ∃ t : State, core.run (7 * k + 1) s = .next t ∧
      t.session = .complete ∧ t.result = .ok ∧ t.busy = false ∧ t.seq = .idle ∧ t.bytesWritten = s.len ∧ t.rxq = q ∧
      t.txlog.length = s.txlog.length + (s.len.toNat - s.bytesWritten.toNat) + 9 * k

/-! ## The whole machine -/

/-- `Inv` holds after reset. -/
def Obligations.ResetSatisfiesInv : Prop := Inv State.reset

/-- Every step of every agent keeps `Inv`. -/
def Obligations.EveryStepKeepsInv : Prop := ∀ s t : State, Inv s → step s = .next t → Inv t

/-- From a state that satisfies `Inv` no step faults or is refused: every outcome of BLPE is a next state (R39, R124). -/
def Obligations.InvStatesAlwaysStepOn : Prop := ∀ s : State, Inv s → StepsOn s

/-- The values of R34 in the reset state, `RXQ`, `TXLOG` and `EVLOG` (no BLPE state) apart. -/
def Obligations.ResetStateHasTheTableValues : Prop :=
  State.reset.status = 0#32 ∧ State.reset.base = 0#32 ∧ State.reset.len = 0#32 ∧ State.reset.failAddr = 0#32 ∧
  State.reset.bytesWritten = 0#32 ∧ State.reset.chipidLen = 0#9 ∧ State.reset.tack = 1000#32 ∧
  State.reset.terase = 30000#32 ∧ State.reset.seq = .idle ∧ State.reset.op = 0#4 ∧ State.reset.chunkAddr = 0#32 ∧
  State.reset.chunkLen = 0#9 ∧ State.reset.idn = 0#8 ∧ State.reset.idtmp = [] ∧
  (∀ i, i < 256 → readByte State.reset.mem (chipidBase + i) = some 0x00#8) ∧
  (∀ i, readByte State.reset.mem (imgBase + i) = none)

/-- Power-on reset at any step (R138, R139): the reset values, with `RXQ`, `TXLOG` and `EVLOG` untouched. That the image
bytes keep their content is read from R31 and 92_eei_decisions.md D20 (log entry 8). -/
def Obligations.PowerOnResetTakesTheResetValues : Prop :=
  ∀ (s : State) (rest : List Action), s.sched = .powerOn :: rest →
    ∃ m : Memory,
      step s = .next { State.reset with
        mem := m, rxq := s.rxq, txlog := s.txlog, evlog := s.evlog, sched := rest, draws := s.draws,
        rdata := s.rdata } ∧
      (∀ i, i < 256 → readByte m (chipidBase + i) = some 0x00#8) ∧
      (∀ i, readByte m (imgBase + i) = readByte s.mem (imgBase + i))

/-- Bytes sent and events emitted are never recalled: every step only appends to `TXLOG` and `EVLOG` (R33, R44), and
what it appends to `TXLOG` is nothing or one of the frames BLPE can send (R54, R59, R70). -/
def Obligations.EveryStepSendsOneFrameOrNothing : Prop :=
  ∀ s t : State, step s = .next t →
    ∃ (f : List Byte) (ev : List Event), t.txlog = s.txlog ++ f ∧ t.evlog = s.evlog ++ ev ∧ (f = [] ∨ IsSentFrame f)

/-- Only the transitions of R27 change `SESSION`. -/
def Obligations.OnlyListedTransitionsChangeTheSession : Prop :=
  ∀ s t : State, Inv s → step s = .next t →
    t.session = s.session ∨
    (s.session = .uninitialized ∧ s.seq = .syWait ∧ s.rxq.head? = some 0x79#8 ∧ t.session = .synchronized) ∨
    (s.session = .synchronized ∧ s.seq = .erAckSel ∧ s.rxq.head? = some 0x79#8 ∧ t.session = .erased) ∨
    (s.session = .erased ∧ s.seq = .upNext ∧ s.len ≠ 0#32 ∧ t.session = .programming) ∨
    (s.session = .erased ∧ s.seq = .upNext ∧ s.len = 0#32 ∧ t.session = .complete) ∨
    (s.session = .programming ∧ s.seq = .upNext ∧ s.bytesWritten = s.len ∧ t.session = .complete) ∨
    (s.session.terminal = false ∧ (stageOf s.seq).isSome = true ∧ t.session = .failed) ∨
    (StartsOver s ∧ t.session = .uninitialized)

/-- The failure record is written only on entry to FAILED and cleared only by NEW_SESSION and by power-on reset (R19,
R22). -/
def Obligations.FailureRecordIsKept : Prop :=
  ∀ s t : State, Inv s → step s = .next t → ¬ StartsOver s → ¬ (s.session ≠ .failed ∧ t.session = .failed) →
    t.failKind = s.failKind ∧ t.failStage = s.failStage ∧ t.failAddr = s.failAddr

/-- A received identifier is never mutated: until the session is started over, `ID_VALID` stays 1 and `CHIPID` and
`CHIPID_LEN` keep their values (R30, R32). -/
def Obligations.ReceivedIdentifierIsImmutable : Prop :=
  ∀ s t : State, Inv s → s.idValid = true → step s = .next t → ¬ StartsOver s →
    t.idValid = true ∧ t.chipidLen = s.chipidLen ∧
    ∀ a, inChipid a = true → readByte t.mem a = readByte s.mem a
end

