-- ==== Sys2Proof/Laws/Framing.lean ====
section
/-! SUPPORT. Laws/Framing.lean: the small facts of the framing unit, the byte-order helpers, the chunk payload and the
configuration's bounds. -/

namespace Sys2Proof.Machine

theorem imageMax_pos : 1 ≤ Config.imageMax := Nat.succ_le_succ (Nat.zero_le _)

theorem imageMax_le : Config.imageMax ≤ 0xFFFF0000 := Config.imageMaxPred.isLt

/-- Folding XOR from a start value is the start value XORed with the fold from zero. -/
theorem foldl_xor (bs : List Byte) : ∀ c : Byte, bs.foldl (· ^^^ ·) c = c ^^^ xorFold bs := by
  induction bs with
  | nil => intro c; simp [xorFold]
  | cons b bs ih => intro c; simp [xorFold, List.foldl_cons, ih (c ^^^ b), ih b, BitVec.xor_assoc]

theorem xorFold_cons (b : Byte) (bs : List Byte) : xorFold (b :: bs) = b ^^^ xorFold bs := by
  simp [xorFold, List.foldl_cons, foldl_xor bs b]

theorem xorFold_append (s t : List Byte) : xorFold (s ++ t) = xorFold s ^^^ xorFold t := by
  rw [xorFold, List.foldl_append, foldl_xor t]
  rfl

theorem blockChecksum_eq (l : Byte) (p : List Byte) : blockChecksum l p = l ^^^ xorFold p := foldl_xor p l

@[simp] theorem wordBytes_length (w : Word) : (wordBytes w).length = 4 := rfl

@[simp] theorem addressFrame_length (a : Word) : (addressFrame a).length = 5 := rfl

@[simp] theorem dataFrame_length (p : List Byte) : (dataFrame p).length = p.length + 2 := by simp [dataFrame]

@[simp] theorem idResponse_length (p : List Byte) : (idResponse p).length = p.length + 3 := by simp [idResponse]

/-- Splitting a word into bytes and joining them gives the word. -/
theorem bytesWord_wordBytes (w : Word) :
    bytesWord (w.extractLsb' 24 8) (w.extractLsb' 16 8) (w.extractLsb' 8 8) (w.extractLsb' 0 8) = w := by
  apply BitVec.eq_of_getLsbD_eq
  intro i hi
  simp only [bytesWord, BitVec.getLsbD_append, BitVec.getLsbD_extractLsb']
  repeat' split
  all_goals first
    | omega
    | (rw [decide_eq_true (by omega), Bool.true_and]; congr 1; omega)

theorem lengthByte_toNat (p : List Byte) (h1 : 1 ≤ p.length) (h2 : p.length ≤ 256) :
    (lengthByte p).toNat = p.length - 1 := by
  simp only [lengthByte, BitVec.toNat_ofNat]; omega

@[simp] theorem imgReads_length (m : Memory) : ∀ (k i d : Nat), (imgReads m k i d).1.length = k := by
  intro k
  induction k with
  | zero => intro i d; rfl
  | succ k ih => intro i d; unfold imgReads; split <;> simp [ih]

@[simp] theorem chunkPayload_length (s : State) : s.chunkPayload.length = s.chunkLen.toNat :=
  imgReads_length _ _ _ _

/-- A written image byte is read as it is. -/
theorem imgReads_written (m : Memory) : ∀ (k i d j : Nat) (b : Byte), j < k →
    readByte m (imgBase + (i + j)) = some b → (imgReads m k i d).1[j]? = some b := by
  intro k
  induction k with
  | zero => intro i d j b h; omega
  | succ k ih =>
    intro i d j b h hb
    unfold imgReads
    cases j with
    | zero => rw [Nat.add_zero] at hb; simp [hb]
    | succ j =>
      have hb' : readByte m (imgBase + (i + 1 + j)) = some b := by rw [show i + 1 + j = i + (j + 1) by omega]; exact hb
      split <;> simpa using ih (i + 1) _ j b (by omega) hb'

/-- A data frame built from 1 to 256 bytes folds to zero (R88 law 2, with its length byte). -/
theorem xorFold_dataFrame (p : List Byte) : xorFold (dataFrame p) = 0#8 := by
  rw [dataFrame, xorFold_cons, xorFold_append, xorFold_cons, blockChecksum_eq]
  simp [xorFold]

end Sys2Proof.Machine
end

