-- ==== Sys2Proof/Laws/Memory.lean ====
section
/-! SUPPORT. Laws/Memory.lean: what the memory operations do to every address, and that each keeps the canonical form. -/

namespace Sys2Proof.Machine

@[simp] theorem readByte_nil (a : Nat) : readByte [] a = unlisted a := rfl

theorem readByte_setCell_same (m : Memory) (a : Nat) (b : Byte) : readByte (setCell a b m) a = some b := by
  induction m with
  | nil => simp [setCell, readByte]
  | cons c m ih =>
    by_cases h : a < c.1
    · simp [setCell, readByte, h]
    · by_cases h' : a = c.1
      · simp [setCell, readByte, h']
      · simp [setCell, readByte, h, h', Ne.symm h', ih]

theorem readByte_setCell_other (m : Memory) {a x : Nat} (b : Byte) (h : x ≠ a) :
    readByte (setCell a b m) x = readByte m x := by
  induction m with
  | nil => simp [setCell, readByte, Ne.symm h]
  | cons c m ih =>
    by_cases h1 : a < c.1
    · simp [setCell, readByte, h1, Ne.symm h]
    · by_cases h2 : a = c.1
      · subst h2; simp [setCell, readByte, Ne.symm h]
      · simp [setCell, readByte, h1, h2, ih]

/-- Dropping cells by a test on their addresses leaves an address that passes as it was. -/
theorem readByte_filter_kept (m : Memory) (p : Nat → Bool) {x : Nat} (h : p x = true) :
    readByte (m.filter fun c => p c.1) x = readByte m x := by
  induction m with
  | nil => rfl
  | cons c m ih =>
    by_cases hc : p c.1 = true
    · simp [hc, readByte, ih]
    · have : c.1 ≠ x := fun e => hc (e ▸ h)
      simp [hc, readByte, this, ih]

/-- A dropped address reads as an unlisted one. -/
theorem readByte_filter_dropped (m : Memory) (p : Nat → Bool) {x : Nat} (h : p x = false) :
    readByte (m.filter fun c => p c.1) x = unlisted x := by
  induction m with
  | nil => rfl
  | cons c m ih =>
    by_cases hc : p c.1 = true
    · have : c.1 ≠ x := fun e => by simp [e, h] at hc
      simp [hc, readByte, this, ih]
    · simp [hc, ih]

theorem readByte_dropCell_same (m : Memory) (a : Nat) : readByte (dropCell a m) a = unlisted a := by
  simpa [dropCell] using readByte_filter_dropped m (fun x => decide (x ≠ a)) (x := a) (by simp)

theorem readByte_dropCell_other (m : Memory) {a x : Nat} (h : x ≠ a) : readByte (dropCell a m) x = readByte m x := by
  simpa [dropCell] using readByte_filter_kept m (fun x => decide (x ≠ a)) (x := x) (by simp [h])

/-- Reading a byte just written gives it. -/
theorem readByte_writeByte_same (m : Memory) (a : Nat) (b : Byte) : readByte (writeByte m a b) a = some b := by
  unfold writeByte
  split
  · rw [readByte_dropCell_same]; assumption
  · exact readByte_setCell_same m a b

/-- Writing a byte leaves every other address as it was. -/
theorem readByte_writeByte_other (m : Memory) {a x : Nat} (b : Byte) (h : x ≠ a) :
    readByte (writeByte m a b) x = readByte m x := by
  unfold writeByte
  split
  · exact readByte_dropCell_other m h
  · exact readByte_setCell_other m b h

/-- Writing a sequence leaves every address outside it as it was. -/
theorem readByte_writeBytes_outside (bs : List Byte) : ∀ (m : Memory) (a : Nat) {x : Nat},
    x < a ∨ a + bs.length ≤ x → readByte (writeBytes m a bs) x = readByte m x := by
  induction bs with
  | nil => intros; rfl
  | cons b bs ih =>
    intro m a x h
    simp only [List.length_cons] at h
    rw [writeBytes, ih _ _ (by omega), readByte_writeByte_other _ _ (by omega)]

/-- Reading inside a sequence just written gives its byte. -/
theorem readByte_writeBytes_inside (bs : List Byte) : ∀ (m : Memory) (a j : Nat), j < bs.length →
    readByte (writeBytes m a bs) (a + j) = bs[j]? := by
  induction bs with
  | nil => intro m a j h; simp at h
  | cons b bs ih =>
    intro m a j h
    cases j with
    | zero => simp [writeBytes, readByte_writeBytes_outside bs _ _ (Or.inl (Nat.lt_succ_self a)), readByte_writeByte_same]
    | succ j =>
      have := ih (writeByte m a b) (a + 1) j (by simpa using h)
      rw [show a + (j + 1) = a + 1 + j by omega]
      simpa [writeBytes] using this

theorem readByte_clearChipid_chipid (m : Memory) {x : Nat} (h : inChipid x = true) :
    readByte (clearChipid m) x = some 0x00#8 := by
  rw [clearChipid, readByte_filter_dropped m (fun x => !inChipid x) (by simp [h])]
  simp [unlisted, h]

theorem readByte_clearChipid_other (m : Memory) {x : Nat} (h : inChipid x = false) :
    readByte (clearChipid m) x = readByte m x := by
  rw [clearChipid, readByte_filter_kept m (fun x => !inChipid x) (by simp [h])]

/-! ## The canonical form -/

theorem wf_nil : Memory.wf [] := by simp [Memory.wf]

theorem wf_filter (m : Memory) (p : Host.Cell → Bool) (h : m.wf) : Memory.wf (m.filter p) :=
  ⟨h.1.filter _, fun c hc => h.2 c (List.mem_of_mem_filter hc)⟩

theorem mem_setCell {m : Memory} {a : Nat} {b : Byte} {c : Host.Cell} (h : c ∈ setCell a b m) :
    c = (a, b) ∨ c ∈ m := by
  induction m with
  | nil => simpa [setCell] using h
  | cons d m ih =>
    by_cases h1 : a < d.1
    · simpa [setCell, h1] using h
    · by_cases h2 : a = d.1
      · simp [setCell, h2] at h
        rcases h with h | h
        · exact .inl (h.trans (by rw [h2]))
        · exact .inr (List.mem_cons_of_mem _ h)
      · simp [setCell, h1, h2] at h
        rcases h with h | h
        · exact .inr (h ▸ List.mem_cons_self)
        · exact (ih h).imp_right (List.mem_cons_of_mem _)

theorem pairwise_setCell (m : Memory) (a : Nat) (b : Byte) (h : m.Pairwise fun c d => c.1 < d.1) :
    (setCell a b m).Pairwise fun c d => c.1 < d.1 := by
  induction m with
  | nil => simp [setCell]
  | cons d m ih =>
    have hd := List.pairwise_cons.1 h
    by_cases h1 : a < d.1
    · simp only [setCell, h1, if_true]
      refine List.pairwise_cons.2 ⟨fun c hc => ?_, h⟩
      rcases List.mem_cons.1 hc with rfl | hc
      · exact h1
      · exact Nat.lt_trans h1 (hd.1 c hc)
    · by_cases h2 : a = d.1
      · simp only [setCell, h2, Nat.lt_irrefl, if_false, if_true]
        exact List.pairwise_cons.2 ⟨fun c hc => hd.1 c hc, hd.2⟩
      · simp only [setCell, h1, h2, if_false]
        refine List.pairwise_cons.2 ⟨fun c hc => ?_, ih hd.2⟩
        rcases mem_setCell hc with rfl | hc
        · simp only; omega
        · exact hd.1 c hc

/-- A write keeps the canonical form. -/
theorem wf_writeByte (m : Memory) (a : Nat) (b : Byte) (h : m.wf) : Memory.wf (writeByte m a b) := by
  unfold writeByte
  split
  · exact wf_filter m _ h
  · rename_i hne
    refine ⟨pairwise_setCell m a b h.1, fun c hc => ?_⟩
    rcases mem_setCell hc with rfl | hc
    · exact hne
    · exact h.2 c hc

theorem wf_writeBytes (bs : List Byte) : ∀ (m : Memory) (a : Nat), m.wf → Memory.wf (writeBytes m a bs) := by
  induction bs with
  | nil => exact fun _ _ h => h
  | cons b bs ih => exact fun m a h => ih _ _ (wf_writeByte m a b h)

theorem wf_clearChipid (m : Memory) (h : m.wf) : Memory.wf (clearChipid m) := wf_filter m _ h

/-- Memory is canonical after reset. -/
theorem wf_reset : State.reset.mem.wf := wf_nil

theorem mem_writeByte {m : Memory} {a : Nat} {b : Byte} {c : Host.Cell} (h : c ∈ writeByte m a b) :
    c.1 = a ∨ c ∈ m := by
  unfold writeByte at h
  split at h
  · exact .inr (List.mem_of_mem_filter h)
  · exact (mem_setCell h).imp_left fun e => by rw [e]

/-- A cell of the memory after a write of a sequence lies in the sequence or was there before. -/
theorem mem_writeBytes (bs : List Byte) : ∀ {m : Memory} {a : Nat} {c : Host.Cell}, c ∈ writeBytes m a bs →
    (a ≤ c.1 ∧ c.1 < a + bs.length) ∨ c ∈ m := by
  induction bs with
  | nil => exact fun h => .inr h
  | cons b bs ih =>
    intro m a c h
    simp only [List.length_cons]
    rcases ih h with h | h
    · exact .inl (by omega)
    · exact (mem_writeByte h).imp_left fun e => by omega

/-- A listed cell of a canonical memory reads as itself. -/
theorem mem_read (m : Memory) (h : m.wf) {c : Host.Cell} (hc : c ∈ m) : readByte m c.1 = some c.2 := by
  induction m with
  | nil => simp at hc
  | cons d m ih =>
    have hd := List.pairwise_cons.1 h.1
    rcases List.mem_cons.1 hc with rfl | hc'
    · simp [readByte]
    · have := hd.1 c hc'
      simp only [readByte, Nat.ne_of_lt this, if_false]
      exact ih ⟨hd.2, fun c hc => h.2 c (List.mem_cons_of_mem _ hc)⟩ hc'

end Sys2Proof.Machine
end

