-- ==== Sys2Proof/Laws/State.lean ====
section
/-! SUPPORT. Laws/State.lean: for each shared update of the state, what each field holds after it; every lemma is true by
unfolding the update once. -/

namespace Sys2Proof.Machine

/-! ### `goto` -/

@[simp] theorem State.goto_busy (s : State) (q : Seq) : (s.goto q).busy = s.busy := rfl
@[simp] theorem State.goto_session (s : State) (q : Seq) : (s.goto q).session = s.session := rfl
@[simp] theorem State.goto_idValid (s : State) (q : Seq) : (s.goto q).idValid = s.idValid := rfl
@[simp] theorem State.goto_result (s : State) (q : Seq) : (s.goto q).result = s.result := rfl
@[simp] theorem State.goto_failKind (s : State) (q : Seq) : (s.goto q).failKind = s.failKind := rfl
@[simp] theorem State.goto_failStage (s : State) (q : Seq) : (s.goto q).failStage = s.failStage := rfl
@[simp] theorem State.goto_base (s : State) (q : Seq) : (s.goto q).base = s.base := rfl
@[simp] theorem State.goto_len (s : State) (q : Seq) : (s.goto q).len = s.len := rfl
@[simp] theorem State.goto_failAddr (s : State) (q : Seq) : (s.goto q).failAddr = s.failAddr := rfl
@[simp] theorem State.goto_bytesWritten (s : State) (q : Seq) : (s.goto q).bytesWritten = s.bytesWritten := rfl
@[simp] theorem State.goto_chipidLen (s : State) (q : Seq) : (s.goto q).chipidLen = s.chipidLen := rfl
@[simp] theorem State.goto_tack (s : State) (q : Seq) : (s.goto q).tack = s.tack := rfl
@[simp] theorem State.goto_terase (s : State) (q : Seq) : (s.goto q).terase = s.terase := rfl
@[simp] theorem State.goto_seq (s : State) (q : Seq) : (s.goto q).seq = q := rfl
@[simp] theorem State.goto_op (s : State) (q : Seq) : (s.goto q).op = s.op := rfl
@[simp] theorem State.goto_chunkAddr (s : State) (q : Seq) : (s.goto q).chunkAddr = s.chunkAddr := rfl
@[simp] theorem State.goto_chunkLen (s : State) (q : Seq) : (s.goto q).chunkLen = s.chunkLen := rfl
@[simp] theorem State.goto_idn (s : State) (q : Seq) : (s.goto q).idn = s.idn := rfl
@[simp] theorem State.goto_idtmp (s : State) (q : Seq) : (s.goto q).idtmp = s.idtmp := rfl
@[simp] theorem State.goto_mem (s : State) (q : Seq) : (s.goto q).mem = s.mem := rfl
@[simp] theorem State.goto_rxq (s : State) (q : Seq) : (s.goto q).rxq = s.rxq := rfl
@[simp] theorem State.goto_txlog (s : State) (q : Seq) : (s.goto q).txlog = s.txlog := rfl
@[simp] theorem State.goto_evlog (s : State) (q : Seq) : (s.goto q).evlog = s.evlog := rfl
@[simp] theorem State.goto_sched (s : State) (q : Seq) : (s.goto q).sched = s.sched := rfl
@[simp] theorem State.goto_draws (s : State) (q : Seq) : (s.goto q).draws = s.draws := rfl
@[simp] theorem State.goto_rdata (s : State) (q : Seq) : (s.goto q).rdata = s.rdata := rfl

/-! ### `setSession` -/

@[simp] theorem State.setSession_busy (s : State) (v : Session) : (s.setSession v).busy = s.busy := rfl
@[simp] theorem State.setSession_session (s : State) (v : Session) : (s.setSession v).session = v := rfl
@[simp] theorem State.setSession_idValid (s : State) (v : Session) : (s.setSession v).idValid = s.idValid := rfl
@[simp] theorem State.setSession_result (s : State) (v : Session) : (s.setSession v).result = s.result := rfl
@[simp] theorem State.setSession_failKind (s : State) (v : Session) : (s.setSession v).failKind = s.failKind := rfl
@[simp] theorem State.setSession_failStage (s : State) (v : Session) : (s.setSession v).failStage = s.failStage := rfl
@[simp] theorem State.setSession_base (s : State) (v : Session) : (s.setSession v).base = s.base := rfl
@[simp] theorem State.setSession_len (s : State) (v : Session) : (s.setSession v).len = s.len := rfl
@[simp] theorem State.setSession_failAddr (s : State) (v : Session) : (s.setSession v).failAddr = s.failAddr := rfl
@[simp] theorem State.setSession_bytesWritten (s : State) (v : Session) : (s.setSession v).bytesWritten = s.bytesWritten :=
    rfl
@[simp] theorem State.setSession_chipidLen (s : State) (v : Session) : (s.setSession v).chipidLen = s.chipidLen := rfl
@[simp] theorem State.setSession_tack (s : State) (v : Session) : (s.setSession v).tack = s.tack := rfl
@[simp] theorem State.setSession_terase (s : State) (v : Session) : (s.setSession v).terase = s.terase := rfl
@[simp] theorem State.setSession_seq (s : State) (v : Session) : (s.setSession v).seq = s.seq := rfl
@[simp] theorem State.setSession_op (s : State) (v : Session) : (s.setSession v).op = s.op := rfl
@[simp] theorem State.setSession_chunkAddr (s : State) (v : Session) : (s.setSession v).chunkAddr = s.chunkAddr := rfl
@[simp] theorem State.setSession_chunkLen (s : State) (v : Session) : (s.setSession v).chunkLen = s.chunkLen := rfl
@[simp] theorem State.setSession_idn (s : State) (v : Session) : (s.setSession v).idn = s.idn := rfl
@[simp] theorem State.setSession_idtmp (s : State) (v : Session) : (s.setSession v).idtmp = s.idtmp := rfl
@[simp] theorem State.setSession_mem (s : State) (v : Session) : (s.setSession v).mem = s.mem := rfl
@[simp] theorem State.setSession_rxq (s : State) (v : Session) : (s.setSession v).rxq = s.rxq := rfl
@[simp] theorem State.setSession_txlog (s : State) (v : Session) : (s.setSession v).txlog = s.txlog := rfl
@[simp] theorem State.setSession_evlog (s : State) (v : Session) : (s.setSession v).evlog = s.evlog := rfl
@[simp] theorem State.setSession_sched (s : State) (v : Session) : (s.setSession v).sched = s.sched := rfl
@[simp] theorem State.setSession_draws (s : State) (v : Session) : (s.setSession v).draws = s.draws := rfl
@[simp] theorem State.setSession_rdata (s : State) (v : Session) : (s.setSession v).rdata = s.rdata := rfl

/-! ### `send` -/

@[simp] theorem State.send_busy (s : State) (f : List Byte) : (s.send f).busy = s.busy := rfl
@[simp] theorem State.send_session (s : State) (f : List Byte) : (s.send f).session = s.session := rfl
@[simp] theorem State.send_idValid (s : State) (f : List Byte) : (s.send f).idValid = s.idValid := rfl
@[simp] theorem State.send_result (s : State) (f : List Byte) : (s.send f).result = s.result := rfl
@[simp] theorem State.send_failKind (s : State) (f : List Byte) : (s.send f).failKind = s.failKind := rfl
@[simp] theorem State.send_failStage (s : State) (f : List Byte) : (s.send f).failStage = s.failStage := rfl
@[simp] theorem State.send_base (s : State) (f : List Byte) : (s.send f).base = s.base := rfl
@[simp] theorem State.send_len (s : State) (f : List Byte) : (s.send f).len = s.len := rfl
@[simp] theorem State.send_failAddr (s : State) (f : List Byte) : (s.send f).failAddr = s.failAddr := rfl
@[simp] theorem State.send_bytesWritten (s : State) (f : List Byte) : (s.send f).bytesWritten = s.bytesWritten := rfl
@[simp] theorem State.send_chipidLen (s : State) (f : List Byte) : (s.send f).chipidLen = s.chipidLen := rfl
@[simp] theorem State.send_tack (s : State) (f : List Byte) : (s.send f).tack = s.tack := rfl
@[simp] theorem State.send_terase (s : State) (f : List Byte) : (s.send f).terase = s.terase := rfl
@[simp] theorem State.send_seq (s : State) (f : List Byte) : (s.send f).seq = s.seq := rfl
@[simp] theorem State.send_op (s : State) (f : List Byte) : (s.send f).op = s.op := rfl
@[simp] theorem State.send_chunkAddr (s : State) (f : List Byte) : (s.send f).chunkAddr = s.chunkAddr := rfl
@[simp] theorem State.send_chunkLen (s : State) (f : List Byte) : (s.send f).chunkLen = s.chunkLen := rfl
@[simp] theorem State.send_idn (s : State) (f : List Byte) : (s.send f).idn = s.idn := rfl
@[simp] theorem State.send_idtmp (s : State) (f : List Byte) : (s.send f).idtmp = s.idtmp := rfl
@[simp] theorem State.send_mem (s : State) (f : List Byte) : (s.send f).mem = s.mem := rfl
@[simp] theorem State.send_rxq (s : State) (f : List Byte) : (s.send f).rxq = s.rxq := rfl
@[simp] theorem State.send_txlog (s : State) (f : List Byte) : (s.send f).txlog = s.txlog ++ f := rfl
@[simp] theorem State.send_evlog (s : State) (f : List Byte) : (s.send f).evlog = s.evlog := rfl
@[simp] theorem State.send_sched (s : State) (f : List Byte) : (s.send f).sched = s.sched := rfl
@[simp] theorem State.send_draws (s : State) (f : List Byte) : (s.send f).draws = s.draws := rfl
@[simp] theorem State.send_rdata (s : State) (f : List Byte) : (s.send f).rdata = s.rdata := rfl

/-! ### `emit` -/

@[simp] theorem State.emit_busy (s : State) (e : Event) : (s.emit e).busy = s.busy := rfl
@[simp] theorem State.emit_session (s : State) (e : Event) : (s.emit e).session = s.session := rfl
@[simp] theorem State.emit_idValid (s : State) (e : Event) : (s.emit e).idValid = s.idValid := rfl
@[simp] theorem State.emit_result (s : State) (e : Event) : (s.emit e).result = s.result := rfl
@[simp] theorem State.emit_failKind (s : State) (e : Event) : (s.emit e).failKind = s.failKind := rfl
@[simp] theorem State.emit_failStage (s : State) (e : Event) : (s.emit e).failStage = s.failStage := rfl
@[simp] theorem State.emit_base (s : State) (e : Event) : (s.emit e).base = s.base := rfl
@[simp] theorem State.emit_len (s : State) (e : Event) : (s.emit e).len = s.len := rfl
@[simp] theorem State.emit_failAddr (s : State) (e : Event) : (s.emit e).failAddr = s.failAddr := rfl
@[simp] theorem State.emit_bytesWritten (s : State) (e : Event) : (s.emit e).bytesWritten = s.bytesWritten := rfl
@[simp] theorem State.emit_chipidLen (s : State) (e : Event) : (s.emit e).chipidLen = s.chipidLen := rfl
@[simp] theorem State.emit_tack (s : State) (e : Event) : (s.emit e).tack = s.tack := rfl
@[simp] theorem State.emit_terase (s : State) (e : Event) : (s.emit e).terase = s.terase := rfl
@[simp] theorem State.emit_seq (s : State) (e : Event) : (s.emit e).seq = s.seq := rfl
@[simp] theorem State.emit_op (s : State) (e : Event) : (s.emit e).op = s.op := rfl
@[simp] theorem State.emit_chunkAddr (s : State) (e : Event) : (s.emit e).chunkAddr = s.chunkAddr := rfl
@[simp] theorem State.emit_chunkLen (s : State) (e : Event) : (s.emit e).chunkLen = s.chunkLen := rfl
@[simp] theorem State.emit_idn (s : State) (e : Event) : (s.emit e).idn = s.idn := rfl
@[simp] theorem State.emit_idtmp (s : State) (e : Event) : (s.emit e).idtmp = s.idtmp := rfl
@[simp] theorem State.emit_mem (s : State) (e : Event) : (s.emit e).mem = s.mem := rfl
@[simp] theorem State.emit_rxq (s : State) (e : Event) : (s.emit e).rxq = s.rxq := rfl
@[simp] theorem State.emit_txlog (s : State) (e : Event) : (s.emit e).txlog = s.txlog := rfl
@[simp] theorem State.emit_evlog (s : State) (e : Event) : (s.emit e).evlog = s.evlog ++ [e] := rfl
@[simp] theorem State.emit_sched (s : State) (e : Event) : (s.emit e).sched = s.sched := rfl
@[simp] theorem State.emit_draws (s : State) (e : Event) : (s.emit e).draws = s.draws := rfl
@[simp] theorem State.emit_rdata (s : State) (e : Event) : (s.emit e).rdata = s.rdata := rfl

/-! ### `clearInput` -/

@[simp] theorem State.clearInput_busy (s : State) : (s.clearInput).busy = s.busy := rfl
@[simp] theorem State.clearInput_session (s : State) : (s.clearInput).session = s.session := rfl
@[simp] theorem State.clearInput_idValid (s : State) : (s.clearInput).idValid = s.idValid := rfl
@[simp] theorem State.clearInput_result (s : State) : (s.clearInput).result = s.result := rfl
@[simp] theorem State.clearInput_failKind (s : State) : (s.clearInput).failKind = s.failKind := rfl
@[simp] theorem State.clearInput_failStage (s : State) : (s.clearInput).failStage = s.failStage := rfl
@[simp] theorem State.clearInput_base (s : State) : (s.clearInput).base = s.base := rfl
@[simp] theorem State.clearInput_len (s : State) : (s.clearInput).len = s.len := rfl
@[simp] theorem State.clearInput_failAddr (s : State) : (s.clearInput).failAddr = s.failAddr := rfl
@[simp] theorem State.clearInput_bytesWritten (s : State) : (s.clearInput).bytesWritten = s.bytesWritten := rfl
@[simp] theorem State.clearInput_chipidLen (s : State) : (s.clearInput).chipidLen = s.chipidLen := rfl
@[simp] theorem State.clearInput_tack (s : State) : (s.clearInput).tack = s.tack := rfl
@[simp] theorem State.clearInput_terase (s : State) : (s.clearInput).terase = s.terase := rfl
@[simp] theorem State.clearInput_seq (s : State) : (s.clearInput).seq = s.seq := rfl
@[simp] theorem State.clearInput_op (s : State) : (s.clearInput).op = s.op := rfl
@[simp] theorem State.clearInput_chunkAddr (s : State) : (s.clearInput).chunkAddr = s.chunkAddr := rfl
@[simp] theorem State.clearInput_chunkLen (s : State) : (s.clearInput).chunkLen = s.chunkLen := rfl
@[simp] theorem State.clearInput_idn (s : State) : (s.clearInput).idn = s.idn := rfl
@[simp] theorem State.clearInput_idtmp (s : State) : (s.clearInput).idtmp = s.idtmp := rfl
@[simp] theorem State.clearInput_mem (s : State) : (s.clearInput).mem = s.mem := rfl
@[simp] theorem State.clearInput_rxq (s : State) : (s.clearInput).rxq = [] := rfl
@[simp] theorem State.clearInput_txlog (s : State) : (s.clearInput).txlog = s.txlog := rfl
@[simp] theorem State.clearInput_evlog (s : State) : (s.clearInput).evlog = s.evlog := rfl
@[simp] theorem State.clearInput_sched (s : State) : (s.clearInput).sched = s.sched := rfl
@[simp] theorem State.clearInput_draws (s : State) : (s.clearInput).draws = s.draws := rfl
@[simp] theorem State.clearInput_rdata (s : State) : (s.clearInput).rdata = s.rdata := rfl

/-! ### `dropRx` -/

@[simp] theorem State.dropRx_busy (s : State) (n : Nat) : (s.dropRx n).busy = s.busy := rfl
@[simp] theorem State.dropRx_session (s : State) (n : Nat) : (s.dropRx n).session = s.session := rfl
@[simp] theorem State.dropRx_idValid (s : State) (n : Nat) : (s.dropRx n).idValid = s.idValid := rfl
@[simp] theorem State.dropRx_result (s : State) (n : Nat) : (s.dropRx n).result = s.result := rfl
@[simp] theorem State.dropRx_failKind (s : State) (n : Nat) : (s.dropRx n).failKind = s.failKind := rfl
@[simp] theorem State.dropRx_failStage (s : State) (n : Nat) : (s.dropRx n).failStage = s.failStage := rfl
@[simp] theorem State.dropRx_base (s : State) (n : Nat) : (s.dropRx n).base = s.base := rfl
@[simp] theorem State.dropRx_len (s : State) (n : Nat) : (s.dropRx n).len = s.len := rfl
@[simp] theorem State.dropRx_failAddr (s : State) (n : Nat) : (s.dropRx n).failAddr = s.failAddr := rfl
@[simp] theorem State.dropRx_bytesWritten (s : State) (n : Nat) : (s.dropRx n).bytesWritten = s.bytesWritten := rfl
@[simp] theorem State.dropRx_chipidLen (s : State) (n : Nat) : (s.dropRx n).chipidLen = s.chipidLen := rfl
@[simp] theorem State.dropRx_tack (s : State) (n : Nat) : (s.dropRx n).tack = s.tack := rfl
@[simp] theorem State.dropRx_terase (s : State) (n : Nat) : (s.dropRx n).terase = s.terase := rfl
@[simp] theorem State.dropRx_seq (s : State) (n : Nat) : (s.dropRx n).seq = s.seq := rfl
@[simp] theorem State.dropRx_op (s : State) (n : Nat) : (s.dropRx n).op = s.op := rfl
@[simp] theorem State.dropRx_chunkAddr (s : State) (n : Nat) : (s.dropRx n).chunkAddr = s.chunkAddr := rfl
@[simp] theorem State.dropRx_chunkLen (s : State) (n : Nat) : (s.dropRx n).chunkLen = s.chunkLen := rfl
@[simp] theorem State.dropRx_idn (s : State) (n : Nat) : (s.dropRx n).idn = s.idn := rfl
@[simp] theorem State.dropRx_idtmp (s : State) (n : Nat) : (s.dropRx n).idtmp = s.idtmp := rfl
@[simp] theorem State.dropRx_mem (s : State) (n : Nat) : (s.dropRx n).mem = s.mem := rfl
@[simp] theorem State.dropRx_rxq (s : State) (n : Nat) : (s.dropRx n).rxq = s.rxq.drop n := rfl
@[simp] theorem State.dropRx_txlog (s : State) (n : Nat) : (s.dropRx n).txlog = s.txlog := rfl
@[simp] theorem State.dropRx_evlog (s : State) (n : Nat) : (s.dropRx n).evlog = s.evlog := rfl
@[simp] theorem State.dropRx_sched (s : State) (n : Nat) : (s.dropRx n).sched = s.sched := rfl
@[simp] theorem State.dropRx_draws (s : State) (n : Nat) : (s.dropRx n).draws = s.draws := rfl
@[simp] theorem State.dropRx_rdata (s : State) (n : Nat) : (s.dropRx n).rdata = s.rdata := rfl

/-! ### `finish` -/

@[simp] theorem State.finish_busy (s : State) (r : ResultCode) : (s.finish r).busy = false := rfl
@[simp] theorem State.finish_session (s : State) (r : ResultCode) : (s.finish r).session = s.session := rfl
@[simp] theorem State.finish_idValid (s : State) (r : ResultCode) : (s.finish r).idValid = s.idValid := rfl
@[simp] theorem State.finish_result (s : State) (r : ResultCode) : (s.finish r).result = r := rfl
@[simp] theorem State.finish_failKind (s : State) (r : ResultCode) : (s.finish r).failKind = s.failKind := rfl
@[simp] theorem State.finish_failStage (s : State) (r : ResultCode) : (s.finish r).failStage = s.failStage := rfl
@[simp] theorem State.finish_base (s : State) (r : ResultCode) : (s.finish r).base = s.base := rfl
@[simp] theorem State.finish_len (s : State) (r : ResultCode) : (s.finish r).len = s.len := rfl
@[simp] theorem State.finish_failAddr (s : State) (r : ResultCode) : (s.finish r).failAddr = s.failAddr := rfl
@[simp] theorem State.finish_bytesWritten (s : State) (r : ResultCode) : (s.finish r).bytesWritten = s.bytesWritten :=
    rfl
@[simp] theorem State.finish_chipidLen (s : State) (r : ResultCode) : (s.finish r).chipidLen = s.chipidLen := rfl
@[simp] theorem State.finish_tack (s : State) (r : ResultCode) : (s.finish r).tack = s.tack := rfl
@[simp] theorem State.finish_terase (s : State) (r : ResultCode) : (s.finish r).terase = s.terase := rfl
@[simp] theorem State.finish_seq (s : State) (r : ResultCode) : (s.finish r).seq = .idle := rfl
@[simp] theorem State.finish_op (s : State) (r : ResultCode) : (s.finish r).op = s.op := rfl
@[simp] theorem State.finish_chunkAddr (s : State) (r : ResultCode) : (s.finish r).chunkAddr = s.chunkAddr := rfl
@[simp] theorem State.finish_chunkLen (s : State) (r : ResultCode) : (s.finish r).chunkLen = s.chunkLen := rfl
@[simp] theorem State.finish_idn (s : State) (r : ResultCode) : (s.finish r).idn = s.idn := rfl
@[simp] theorem State.finish_idtmp (s : State) (r : ResultCode) : (s.finish r).idtmp = s.idtmp := rfl
@[simp] theorem State.finish_mem (s : State) (r : ResultCode) : (s.finish r).mem = s.mem := rfl
@[simp] theorem State.finish_rxq (s : State) (r : ResultCode) : (s.finish r).rxq = s.rxq := rfl
@[simp] theorem State.finish_txlog (s : State) (r : ResultCode) : (s.finish r).txlog = s.txlog := rfl
@[simp] theorem State.finish_evlog (s : State) (r : ResultCode) : (s.finish r).evlog = s.evlog := rfl
@[simp] theorem State.finish_sched (s : State) (r : ResultCode) : (s.finish r).sched = s.sched := rfl
@[simp] theorem State.finish_draws (s : State) (r : ResultCode) : (s.finish r).draws = s.draws := rfl
@[simp] theorem State.finish_rdata (s : State) (r : ResultCode) : (s.finish r).rdata = s.rdata := rfl

/-! ### `refuse` -/

@[simp] theorem State.refuse_busy (s : State) (r : ResultCode) : (s.refuse r).busy = s.busy := rfl
@[simp] theorem State.refuse_session (s : State) (r : ResultCode) : (s.refuse r).session = s.session := rfl
@[simp] theorem State.refuse_idValid (s : State) (r : ResultCode) : (s.refuse r).idValid = s.idValid := rfl
@[simp] theorem State.refuse_result (s : State) (r : ResultCode) : (s.refuse r).result = r := rfl
@[simp] theorem State.refuse_failKind (s : State) (r : ResultCode) : (s.refuse r).failKind = s.failKind := rfl
@[simp] theorem State.refuse_failStage (s : State) (r : ResultCode) : (s.refuse r).failStage = s.failStage := rfl
@[simp] theorem State.refuse_base (s : State) (r : ResultCode) : (s.refuse r).base = s.base := rfl
@[simp] theorem State.refuse_len (s : State) (r : ResultCode) : (s.refuse r).len = s.len := rfl
@[simp] theorem State.refuse_failAddr (s : State) (r : ResultCode) : (s.refuse r).failAddr = s.failAddr := rfl
@[simp] theorem State.refuse_bytesWritten (s : State) (r : ResultCode) : (s.refuse r).bytesWritten = s.bytesWritten :=
    rfl
@[simp] theorem State.refuse_chipidLen (s : State) (r : ResultCode) : (s.refuse r).chipidLen = s.chipidLen := rfl
@[simp] theorem State.refuse_tack (s : State) (r : ResultCode) : (s.refuse r).tack = s.tack := rfl
@[simp] theorem State.refuse_terase (s : State) (r : ResultCode) : (s.refuse r).terase = s.terase := rfl
@[simp] theorem State.refuse_seq (s : State) (r : ResultCode) : (s.refuse r).seq = s.seq := rfl
@[simp] theorem State.refuse_op (s : State) (r : ResultCode) : (s.refuse r).op = s.op := rfl
@[simp] theorem State.refuse_chunkAddr (s : State) (r : ResultCode) : (s.refuse r).chunkAddr = s.chunkAddr := rfl
@[simp] theorem State.refuse_chunkLen (s : State) (r : ResultCode) : (s.refuse r).chunkLen = s.chunkLen := rfl
@[simp] theorem State.refuse_idn (s : State) (r : ResultCode) : (s.refuse r).idn = s.idn := rfl
@[simp] theorem State.refuse_idtmp (s : State) (r : ResultCode) : (s.refuse r).idtmp = s.idtmp := rfl
@[simp] theorem State.refuse_mem (s : State) (r : ResultCode) : (s.refuse r).mem = s.mem := rfl
@[simp] theorem State.refuse_rxq (s : State) (r : ResultCode) : (s.refuse r).rxq = s.rxq := rfl
@[simp] theorem State.refuse_txlog (s : State) (r : ResultCode) : (s.refuse r).txlog = s.txlog := rfl
@[simp] theorem State.refuse_evlog (s : State) (r : ResultCode) : (s.refuse r).evlog = s.evlog := rfl
@[simp] theorem State.refuse_sched (s : State) (r : ResultCode) : (s.refuse r).sched = s.sched := rfl
@[simp] theorem State.refuse_draws (s : State) (r : ResultCode) : (s.refuse r).draws = s.draws := rfl
@[simp] theorem State.refuse_rdata (s : State) (r : ResultCode) : (s.refuse r).rdata = s.rdata := rfl

/-! ### `popTurn` -/

@[simp] theorem State.popTurn_busy (s : State) : (s.popTurn).busy = s.busy := rfl
@[simp] theorem State.popTurn_session (s : State) : (s.popTurn).session = s.session := rfl
@[simp] theorem State.popTurn_idValid (s : State) : (s.popTurn).idValid = s.idValid := rfl
@[simp] theorem State.popTurn_result (s : State) : (s.popTurn).result = s.result := rfl
@[simp] theorem State.popTurn_failKind (s : State) : (s.popTurn).failKind = s.failKind := rfl
@[simp] theorem State.popTurn_failStage (s : State) : (s.popTurn).failStage = s.failStage := rfl
@[simp] theorem State.popTurn_base (s : State) : (s.popTurn).base = s.base := rfl
@[simp] theorem State.popTurn_len (s : State) : (s.popTurn).len = s.len := rfl
@[simp] theorem State.popTurn_failAddr (s : State) : (s.popTurn).failAddr = s.failAddr := rfl
@[simp] theorem State.popTurn_bytesWritten (s : State) : (s.popTurn).bytesWritten = s.bytesWritten := rfl
@[simp] theorem State.popTurn_chipidLen (s : State) : (s.popTurn).chipidLen = s.chipidLen := rfl
@[simp] theorem State.popTurn_tack (s : State) : (s.popTurn).tack = s.tack := rfl
@[simp] theorem State.popTurn_terase (s : State) : (s.popTurn).terase = s.terase := rfl
@[simp] theorem State.popTurn_seq (s : State) : (s.popTurn).seq = s.seq := rfl
@[simp] theorem State.popTurn_op (s : State) : (s.popTurn).op = s.op := rfl
@[simp] theorem State.popTurn_chunkAddr (s : State) : (s.popTurn).chunkAddr = s.chunkAddr := rfl
@[simp] theorem State.popTurn_chunkLen (s : State) : (s.popTurn).chunkLen = s.chunkLen := rfl
@[simp] theorem State.popTurn_idn (s : State) : (s.popTurn).idn = s.idn := rfl
@[simp] theorem State.popTurn_idtmp (s : State) : (s.popTurn).idtmp = s.idtmp := rfl
@[simp] theorem State.popTurn_mem (s : State) : (s.popTurn).mem = s.mem := rfl
@[simp] theorem State.popTurn_rxq (s : State) : (s.popTurn).rxq = s.rxq := rfl
@[simp] theorem State.popTurn_txlog (s : State) : (s.popTurn).txlog = s.txlog := rfl
@[simp] theorem State.popTurn_evlog (s : State) : (s.popTurn).evlog = s.evlog := rfl
@[simp] theorem State.popTurn_sched (s : State) : (s.popTurn).sched = s.sched.tail := rfl
@[simp] theorem State.popTurn_draws (s : State) : (s.popTurn).draws = s.draws := rfl
@[simp] theorem State.popTurn_rdata (s : State) : (s.popTurn).rdata = s.rdata := rfl

/-! ### `fail` -/

@[simp] theorem State.fail_busy (s : State) (g : Stage) (k : ErrorKind) : (s.fail g k).busy = false := rfl
@[simp] theorem State.fail_session (s : State) (g : Stage) (k : ErrorKind) : (s.fail g k).session = .failed := rfl
@[simp] theorem State.fail_idValid (s : State) (g : Stage) (k : ErrorKind) : (s.fail g k).idValid = s.idValid := rfl
@[simp] theorem State.fail_result (s : State) (g : Stage) (k : ErrorKind) : (s.fail g k).result = if g.isWrite then .chunkFailed else k.result :=
    rfl
@[simp] theorem State.fail_failKind (s : State) (g : Stage) (k : ErrorKind) : (s.fail g k).failKind = some k := rfl
@[simp] theorem State.fail_failStage (s : State) (g : Stage) (k : ErrorKind) : (s.fail g k).failStage = g := rfl
@[simp] theorem State.fail_base (s : State) (g : Stage) (k : ErrorKind) : (s.fail g k).base = s.base := rfl
@[simp] theorem State.fail_len (s : State) (g : Stage) (k : ErrorKind) : (s.fail g k).len = s.len := rfl
@[simp] theorem State.fail_failAddr (s : State) (g : Stage) (k : ErrorKind) : (s.fail g k).failAddr = if g.isWrite then s.chunkAddr else s.failAddr :=
    rfl
@[simp] theorem State.fail_bytesWritten (s : State) (g : Stage) (k : ErrorKind) : (s.fail g k).bytesWritten = s.bytesWritten :=
    rfl
@[simp] theorem State.fail_chipidLen (s : State) (g : Stage) (k : ErrorKind) : (s.fail g k).chipidLen = s.chipidLen :=
    rfl
@[simp] theorem State.fail_tack (s : State) (g : Stage) (k : ErrorKind) : (s.fail g k).tack = s.tack := rfl
@[simp] theorem State.fail_terase (s : State) (g : Stage) (k : ErrorKind) : (s.fail g k).terase = s.terase := rfl
@[simp] theorem State.fail_seq (s : State) (g : Stage) (k : ErrorKind) : (s.fail g k).seq = .idle := rfl
@[simp] theorem State.fail_op (s : State) (g : Stage) (k : ErrorKind) : (s.fail g k).op = s.op := rfl
@[simp] theorem State.fail_chunkAddr (s : State) (g : Stage) (k : ErrorKind) : (s.fail g k).chunkAddr = s.chunkAddr :=
    rfl
@[simp] theorem State.fail_chunkLen (s : State) (g : Stage) (k : ErrorKind) : (s.fail g k).chunkLen = s.chunkLen :=
    rfl
@[simp] theorem State.fail_idn (s : State) (g : Stage) (k : ErrorKind) : (s.fail g k).idn = s.idn := rfl
@[simp] theorem State.fail_idtmp (s : State) (g : Stage) (k : ErrorKind) : (s.fail g k).idtmp = s.idtmp := rfl
@[simp] theorem State.fail_mem (s : State) (g : Stage) (k : ErrorKind) : (s.fail g k).mem = s.mem := rfl
@[simp] theorem State.fail_rxq (s : State) (g : Stage) (k : ErrorKind) : (s.fail g k).rxq = s.rxq := rfl
@[simp] theorem State.fail_txlog (s : State) (g : Stage) (k : ErrorKind) : (s.fail g k).txlog = s.txlog := rfl
@[simp] theorem State.fail_evlog (s : State) (g : Stage) (k : ErrorKind) : (s.fail g k).evlog = s.evlog ++ [.failed g (if g.isWrite then .chunkFailed s.chunkAddr k else .kind k)] :=
    rfl
@[simp] theorem State.fail_sched (s : State) (g : Stage) (k : ErrorKind) : (s.fail g k).sched = s.sched := rfl
@[simp] theorem State.fail_draws (s : State) (g : Stage) (k : ErrorKind) : (s.fail g k).draws = s.draws := rfl
@[simp] theorem State.fail_rdata (s : State) (g : Stage) (k : ErrorKind) : (s.fail g k).rdata = s.rdata := rfl

/-! ### `accept` -/

@[simp] theorem State.accept_busy (s : State) (o : HostOp) : (s.accept o).busy = true := rfl
@[simp] theorem State.accept_session (s : State) (o : HostOp) : (s.accept o).session = s.session := rfl
@[simp] theorem State.accept_idValid (s : State) (o : HostOp) : (s.accept o).idValid = s.idValid := rfl
@[simp] theorem State.accept_result (s : State) (o : HostOp) : (s.accept o).result = .none := rfl
@[simp] theorem State.accept_failKind (s : State) (o : HostOp) : (s.accept o).failKind = s.failKind := rfl
@[simp] theorem State.accept_failStage (s : State) (o : HostOp) : (s.accept o).failStage = s.failStage := rfl
@[simp] theorem State.accept_base (s : State) (o : HostOp) : (s.accept o).base = s.base := rfl
@[simp] theorem State.accept_len (s : State) (o : HostOp) : (s.accept o).len = s.len := rfl
@[simp] theorem State.accept_failAddr (s : State) (o : HostOp) : (s.accept o).failAddr = s.failAddr := rfl
@[simp] theorem State.accept_bytesWritten (s : State) (o : HostOp) : (s.accept o).bytesWritten = if o = .upload then 0#32 else s.bytesWritten :=
    rfl
@[simp] theorem State.accept_chipidLen (s : State) (o : HostOp) : (s.accept o).chipidLen = s.chipidLen := rfl
@[simp] theorem State.accept_tack (s : State) (o : HostOp) : (s.accept o).tack = s.tack := rfl
@[simp] theorem State.accept_terase (s : State) (o : HostOp) : (s.accept o).terase = s.terase := rfl
@[simp] theorem State.accept_seq (s : State) (o : HostOp) : (s.accept o).seq = o.entry := rfl
@[simp] theorem State.accept_op (s : State) (o : HostOp) : (s.accept o).op = o.code := rfl
@[simp] theorem State.accept_chunkAddr (s : State) (o : HostOp) : (s.accept o).chunkAddr = s.chunkAddr := rfl
@[simp] theorem State.accept_chunkLen (s : State) (o : HostOp) : (s.accept o).chunkLen = s.chunkLen := rfl
@[simp] theorem State.accept_idn (s : State) (o : HostOp) : (s.accept o).idn = s.idn := rfl
@[simp] theorem State.accept_idtmp (s : State) (o : HostOp) : (s.accept o).idtmp = s.idtmp := rfl
@[simp] theorem State.accept_mem (s : State) (o : HostOp) : (s.accept o).mem = s.mem := rfl
@[simp] theorem State.accept_rxq (s : State) (o : HostOp) : (s.accept o).rxq = s.rxq := rfl
@[simp] theorem State.accept_txlog (s : State) (o : HostOp) : (s.accept o).txlog = s.txlog := rfl
@[simp] theorem State.accept_evlog (s : State) (o : HostOp) : (s.accept o).evlog = s.evlog := rfl
@[simp] theorem State.accept_sched (s : State) (o : HostOp) : (s.accept o).sched = s.sched := rfl
@[simp] theorem State.accept_draws (s : State) (o : HostOp) : (s.accept o).draws = s.draws := rfl
@[simp] theorem State.accept_rdata (s : State) (o : HostOp) : (s.accept o).rdata = s.rdata := rfl

/-! ### `newSession` -/

@[simp] theorem State.newSession_busy (s : State) : (s.newSession).busy = s.busy := rfl
@[simp] theorem State.newSession_session (s : State) : (s.newSession).session = .uninitialized := rfl
@[simp] theorem State.newSession_idValid (s : State) : (s.newSession).idValid = false := rfl
@[simp] theorem State.newSession_result (s : State) : (s.newSession).result = .ok := rfl
@[simp] theorem State.newSession_failKind (s : State) : (s.newSession).failKind = none := rfl
@[simp] theorem State.newSession_failStage (s : State) : (s.newSession).failStage = .none := rfl
@[simp] theorem State.newSession_base (s : State) : (s.newSession).base = s.base := rfl
@[simp] theorem State.newSession_len (s : State) : (s.newSession).len = s.len := rfl
@[simp] theorem State.newSession_failAddr (s : State) : (s.newSession).failAddr = 0#32 := rfl
@[simp] theorem State.newSession_bytesWritten (s : State) : (s.newSession).bytesWritten = 0#32 := rfl
@[simp] theorem State.newSession_chipidLen (s : State) : (s.newSession).chipidLen = 0#9 := rfl
@[simp] theorem State.newSession_tack (s : State) : (s.newSession).tack = s.tack := rfl
@[simp] theorem State.newSession_terase (s : State) : (s.newSession).terase = s.terase := rfl
@[simp] theorem State.newSession_seq (s : State) : (s.newSession).seq = s.seq := rfl
@[simp] theorem State.newSession_op (s : State) : (s.newSession).op = s.op := rfl
@[simp] theorem State.newSession_chunkAddr (s : State) : (s.newSession).chunkAddr = s.chunkAddr := rfl
@[simp] theorem State.newSession_chunkLen (s : State) : (s.newSession).chunkLen = s.chunkLen := rfl
@[simp] theorem State.newSession_idn (s : State) : (s.newSession).idn = s.idn := rfl
@[simp] theorem State.newSession_idtmp (s : State) : (s.newSession).idtmp = [] := rfl
@[simp] theorem State.newSession_mem (s : State) : (s.newSession).mem = clearChipid s.mem := rfl
@[simp] theorem State.newSession_rxq (s : State) : (s.newSession).rxq = s.rxq := rfl
@[simp] theorem State.newSession_txlog (s : State) : (s.newSession).txlog = s.txlog := rfl
@[simp] theorem State.newSession_evlog (s : State) : (s.newSession).evlog = s.evlog := rfl
@[simp] theorem State.newSession_sched (s : State) : (s.newSession).sched = s.sched := rfl
@[simp] theorem State.newSession_draws (s : State) : (s.newSession).draws = s.draws := rfl
@[simp] theorem State.newSession_rdata (s : State) : (s.newSession).rdata = s.rdata := rfl

/-! ### `storeId` -/

@[simp] theorem State.storeId_busy (s : State) : (s.storeId).busy = false := rfl
@[simp] theorem State.storeId_session (s : State) : (s.storeId).session = s.session := rfl
@[simp] theorem State.storeId_idValid (s : State) : (s.storeId).idValid = true := rfl
@[simp] theorem State.storeId_result (s : State) : (s.storeId).result = .ok := rfl
@[simp] theorem State.storeId_failKind (s : State) : (s.storeId).failKind = s.failKind := rfl
@[simp] theorem State.storeId_failStage (s : State) : (s.storeId).failStage = s.failStage := rfl
@[simp] theorem State.storeId_base (s : State) : (s.storeId).base = s.base := rfl
@[simp] theorem State.storeId_len (s : State) : (s.storeId).len = s.len := rfl
@[simp] theorem State.storeId_failAddr (s : State) : (s.storeId).failAddr = s.failAddr := rfl
@[simp] theorem State.storeId_bytesWritten (s : State) : (s.storeId).bytesWritten = s.bytesWritten := rfl
@[simp] theorem State.storeId_chipidLen (s : State) : (s.storeId).chipidLen = BitVec.ofNat 9 (s.idn.toNat + 1) := rfl
@[simp] theorem State.storeId_tack (s : State) : (s.storeId).tack = s.tack := rfl
@[simp] theorem State.storeId_terase (s : State) : (s.storeId).terase = s.terase := rfl
@[simp] theorem State.storeId_seq (s : State) : (s.storeId).seq = .idle := rfl
@[simp] theorem State.storeId_op (s : State) : (s.storeId).op = s.op := rfl
@[simp] theorem State.storeId_chunkAddr (s : State) : (s.storeId).chunkAddr = s.chunkAddr := rfl
@[simp] theorem State.storeId_chunkLen (s : State) : (s.storeId).chunkLen = s.chunkLen := rfl
@[simp] theorem State.storeId_idn (s : State) : (s.storeId).idn = s.idn := rfl
@[simp] theorem State.storeId_idtmp (s : State) : (s.storeId).idtmp = s.idtmp := rfl
@[simp] theorem State.storeId_mem (s : State) : (s.storeId).mem = writeBytes s.mem chipidBase (s.idtmp.take (s.idn.toNat + 1)) :=
    rfl
@[simp] theorem State.storeId_rxq (s : State) : (s.storeId).rxq = s.rxq := rfl
@[simp] theorem State.storeId_txlog (s : State) : (s.storeId).txlog = s.txlog := rfl
@[simp] theorem State.storeId_evlog (s : State) : (s.storeId).evlog = s.evlog ++ [.chipIdReceived s.idtmp] := rfl
@[simp] theorem State.storeId_sched (s : State) : (s.storeId).sched = s.sched := rfl
@[simp] theorem State.storeId_draws (s : State) : (s.storeId).draws = s.draws := rfl
@[simp] theorem State.storeId_rdata (s : State) : (s.storeId).rdata = s.rdata := rfl

end Sys2Proof.Machine
end

