-- ==== Sys2Proof/Laws/Ops.lean ====
section
/-! SUPPORT. Laws/Ops.lean: for each shared operation, everything it can do when it answers a next state. -/

namespace Sys2Proof.Machine

open Sys2Proof.Safety

theorem whenIdle_cases {s t : State} {f : State → State} (h : whenIdle s f = .next t) :
    (s.busy = true ∧ t = s) ∨ (s.busy = false ∧ t = f s) := by
  unfold whenIdle at h
  split at h <;> simp_all

theorem whenDue_cases {s t : State} {p : Prop} [Decidable p] {f : State → State} (h : whenDue s p f = .next t) :
    (p ∧ t = f s) ∨ (¬ p ∧ t = s) := by
  unfold whenDue at h
  split at h <;> simp_all

theorem whenDue_due {s : State} {p : Prop} [Decidable p] {f : State → State} (h : p) : whenDue s p f = .next (f s) := by
  simp [whenDue, h]

theorem whenDue_notDue {s : State} {p : Prop} [Decidable p] {f : State → State} (h : ¬ p) : whenDue s p f = .next s := by
  simp [whenDue, h]

/-- A command is refused with the code of R119 or accepted. -/
theorem issue_cases (s : State) (op : HostOp) :
    (∃ c, s.refusal op = some c ∧ s.issue op = s.refuse c) ∨ (s.refusal op = none ∧ s.issue op = s.accept op) := by
  unfold State.issue
  split <;> simp_all

/-- When R119 refuses none of SYNC, GET_ID, ERASE_ALL, UPLOAD, the operation is legal and its operands are. -/
theorem refusal_none {s : State} {op : HostOp} (hop : op ≠ .newSession) (h : s.refusal op = none) :
    s.session.terminal = false ∧ s.legal op = true ∧ (op = .upload → s.uploadOperandsOk = true) := by
  cases ht : s.session.terminal <;> cases hl : s.legal op <;> cases hu : s.uploadOperandsOk <;>
    simp_all [State.refusal]

theorem chunkDone_cases {s t : State} (h : chunkDone s = .next t) :
    s.bytesWritten.toNat + s.chunkLen.toNat < 2 ^ 32 ∧
    t = { s with
      bytesWritten := s.bytesWritten + s.chunkLen.setWidth 32
      evlog := s.evlog ++ [.chunkWritten s.chunkAddr s.chunkLen (s.bytesWritten + s.chunkLen.setWidth 32) s.len]
      seq := .upNext } := by
  unfold chunkDone at h
  split at h
  · simp at h
  · exact ⟨by omega, by simpa using h.symm⟩

theorem upNext_cases {s t : State} (h : upNext s = .next t) :
    (s.bytesWritten = s.len ∧ t = ((s.setSession .complete).emit (.uploadComplete s.len)).finish .ok) ∨
    (s.bytesWritten.toNat < s.len.toNat ∧ s.base.toNat + s.bytesWritten.toNat < 2 ^ 32 ∧
      t = { s with
        chunkLen := BitVec.ofNat 9 (min 256 (s.len.toNat - s.bytesWritten.toNat))
        chunkAddr := s.base + s.bytesWritten
        session := if s.session = .erased then .programming else s.session
        seq := .wrSendCmd }) := by
  unfold upNext at h
  split at h
  · exact .inl ⟨‹_›, by simpa using h.symm⟩
  · rename_i hne
    split at h
    · simp at h
    · split at h
      · simp at h
      · have : s.bytesWritten.toNat ≠ s.len.toNat := fun e => hne (BitVec.eq_of_toNat_eq e)
        exact .inr ⟨by omega, by omega, by simpa using h.symm⟩

/-- A response byte decodes as ACK exactly when it is `0x79`. -/
theorem decodeResponse_ack_iff (r : List Byte) : decodeResponse r = .ack ↔ r.head? = some 0x79#8 := by
  cases r with
  | nil => simp [decodeResponse]
  | cons b r =>
    by_cases h : b = 0x79#8
    · simp [decodeResponse, h]
    · by_cases h' : b = 0x1F#8 <;> simp [decodeResponse, h, h']

theorem awaitAck_cases {g : Stage} {r : List Byte} {s t : State} {f : State → StepResult}
    (h : awaitAck g r s f = .next t) :
    (r.head? = some 0x79#8 ∧ f s = .next t) ∨ ∃ k, t = s.fail g k := by
  unfold awaitAck at h
  split at h
  · exact .inl ⟨(decodeResponse_ack_iff r).1 ‹_›, h⟩
  all_goals exact .inr ⟨_, by simpa using h.symm⟩

/-- The end of a read: the stage fails; or it had what it expected and the operation goes on or finishes; or the step
reads nothing. -/
theorem completeRead_cases {r : List Byte} {s t : State} (h : completeRead r s = .next t) :
    (∃ g k, stageOf s.seq = some g ∧ t = s.fail g k) ∨
    (s.seq = .syWait ∧ r.head? = some 0x79#8 ∧
      t = ((s.setSession .synchronized).emit .synchronized).finish .ok) ∨
    (s.seq = .giAck ∧ r.head? = some 0x79#8 ∧ t = s.goto .giLen) ∨
    (s.seq = .giLen ∧ ∃ n q, r = n :: q ∧ t = { s with idn := n, seq := .giData }) ∨
    (s.seq = .giData ∧ s.idn.toNat + 1 ≤ r.length ∧ t = { s with idtmp := r, seq := .giFinal }) ∨
    (s.seq = .giFinal ∧ r.head? = some 0x79#8 ∧ t = s.storeId) ∨
    (s.seq = .erAckCmd ∧ r.head? = some 0x79#8 ∧ t = s.goto .erSendSel) ∨
    (s.seq = .erAckSel ∧ r.head? = some 0x79#8 ∧
      t = ((s.setSession .erased).emit .eraseComplete).finish .ok) ∨
    (s.seq = .wrAckCmd ∧ r.head? = some 0x79#8 ∧ t = s.goto .wrSendAddr) ∨
    (s.seq = .wrAckAddr ∧ r.head? = some 0x79#8 ∧ t = s.goto .wrSendData) ∨
    (s.seq = .wrAckData ∧ r.head? = some 0x79#8 ∧ chunkDone s = .next t) ∨
    (stageOf s.seq = none ∧ t = s) := by
  unfold completeRead at h
  split at h <;> rename_i hq <;> simp only [hq, stageOf, true_and, false_and, or_false, false_or, reduceCtorEq]
  · split at h
    · exact .inr ⟨(decodeResponse_ack_iff r).1 ‹_›, by simpa using h.symm⟩
    all_goals exact .inl ⟨_, _, rfl, by simpa using h.symm⟩
  · rcases awaitAck_cases h with h | ⟨k, h⟩
    · exact .inr ⟨h.1, by simpa using h.2.symm⟩
    · exact .inl ⟨_, k, rfl, h⟩
  · split at h
    · exact .inl ⟨_, _, rfl, by simpa using h.symm⟩
    · exact .inr ⟨_, _, rfl, by simpa using h.symm⟩
  · split at h
    · exact .inl ⟨_, _, rfl, by simpa using h.symm⟩
    · exact .inr ⟨by omega, by simpa using h.symm⟩
  · split at h
    · exact .inr ⟨(decodeResponse_ack_iff r).1 ‹_›, by simpa using h.symm⟩
    all_goals exact .inl ⟨_, _, rfl, by simpa using h.symm⟩
  · rcases awaitAck_cases h with h | ⟨k, h⟩
    · exact .inr ⟨h.1, by simpa using h.2.symm⟩
    · exact .inl ⟨_, k, rfl, h⟩
  · rcases awaitAck_cases h with h | ⟨k, h⟩
    · exact .inr ⟨h.1, by simpa using h.2.symm⟩
    · exact .inl ⟨_, k, rfl, h⟩
  · rcases awaitAck_cases h with h | ⟨k, h⟩
    · exact .inr ⟨h.1, by simpa using h.2.symm⟩
    · exact .inl ⟨_, k, rfl, h⟩
  · rcases awaitAck_cases h with h | ⟨k, h⟩
    · exact .inr ⟨h.1, by simpa using h.2.symm⟩
    · exact .inl ⟨_, k, rfl, h⟩
  · rcases awaitAck_cases h with h | ⟨k, h⟩
    · exact .inr h
    · exact .inl ⟨_, k, rfl, h⟩
  all_goals simpa using h.symm

/-- `RecvData` either waits or ends the read with exactly the bytes asked for. -/
theorem recvData_cases {s t : State} (h : recvData s = .next t) :
    t = s ∨ ∃ n tm, s.pendingRead = some (n, tm) ∧ n ≤ s.rxq.length ∧
      completeRead (s.rxq.take n) (s.dropRx n) = .next t := by
  unfold recvData at h
  split at h
  · exact .inl (by simpa using h.symm)
  · split at h
    · exact .inr ⟨_, _, ‹_›, ‹_›, h⟩
    · exact .inl (by simpa using h.symm)

/-- `RecvTimeout` either is not enabled or ends the read short with every waiting byte. -/
theorem recvTimeout_cases {s t : State} (h : recvTimeout s = .next t) :
    t = s ∨ ∃ n tm, s.pendingRead = some (n, tm) ∧ s.rxq.length < n ∧ completeRead s.rxq s.clearInput = .next t := by
  unfold recvTimeout at h
  split at h
  · exact .inl (by simpa using h.symm)
  · split at h
    · exact .inr ⟨_, _, ‹_›, ‹_›, h⟩
    · exact .inl (by simpa using h.symm)

theorem takeResp_cases {b : Byte} {s t : State} (h : takeResp b s = .next t) :
    t = s ∨ (s.seq.readsResp = true ∧ s.rxq.head? = some b ∧ completeRead [b] (s.dropRx 1) = .next t) := by
  unfold takeResp at h
  split at h
  · exact .inr ⟨‹_ ∧ _›.1, ‹_ ∧ _›.2, h⟩
  · exact .inl (by simpa using h.symm)

theorem andThen_cases {r : StepResult} {f : State → StepResult} {t : State} (h : andThen r f = .next t) :
    ∃ u, r = .next u ∧ f u = .next t := by
  cases r <;> simp_all [andThen]

theorem execGetidResponse_cases {ident : List Byte} {s t : State} (h : execGetidResponse ident s = .next t) :
    t = s ∨ (s.seq = .giAck ∧ idResponse ident <+: s.rxq ∧ ∃ u v w, recvData s = .next u ∧ recvData u = .next v ∧
      recvData v = .next w ∧ recvData w = .next t) := by
  unfold execGetidResponse at h
  split at h
  · rename_i hd
    obtain ⟨w, h, hw⟩ := andThen_cases h
    obtain ⟨v, h, hv⟩ := andThen_cases h
    obtain ⟨u, h, hu⟩ := andThen_cases h
    exact .inr ⟨hd.1, List.isPrefixOf_iff_prefix.1 hd.2, u, v, w, h, hu, hv, hw⟩
  · exact .inl (by simpa using h.symm)

/-- A host write of anything but a command changes at most one of the four writable registers or one image byte, and
only while no operation runs. -/
theorem hostWrite_cases (s : State) (addr : Word) (width : Nat) (v : Word) :
    s.hostWrite addr width v = s ∨ (s.busy = false ∧
      (s.hostWrite addr width v = { s with base := v } ∨ s.hostWrite addr width v = { s with len := v } ∨
        s.hostWrite addr width v = { s with tack := v } ∨ s.hostWrite addr width v = { s with terase := v } ∨
        (inImg addr.toNat = true ∧
          s.hostWrite addr width v = { s with mem := writeByte s.mem addr.toNat (v.setWidth 8) }))) := by
  by_cases hb : s.busy = true
  · exact .inl (by simp [State.hostWrite, hb])
  · have hb' : s.busy = false := by simpa using hb
    unfold State.hostWrite
    rw [if_neg hb]
    split
    · split
      · split
        · rename_i r _
          cases r
          case base => exact .inr ⟨hb', .inl rfl⟩
          case len => exact .inr ⟨hb', .inr (.inl rfl)⟩
          case tack => exact .inr ⟨hb', .inr (.inr (.inl rfl))⟩
          case terase => exact .inr ⟨hb', .inr (.inr (.inr (.inl rfl)))⟩
          all_goals exact .inl rfl
        · exact .inl rfl
      · exact .inl rfl
    · split
      · exact .inr ⟨hb', .inr (.inr (.inr (.inr ⟨‹_ ∧ _›.1, rfl⟩)))⟩
      · exact .inl rfl

end Sys2Proof.Machine
end

