-- ==== Sys2Proof/Laws/PerInstr.lean ====
section
/-! SUPPORT. Laws/PerInstr.lean: a statement about every instruction, one lemma per constructor: the length of a unit of
each format (the "length" column of R54, and R72). -/

namespace Sys2Proof.Laws

/-- The lengths R54 gives a format's units, in bytes. -/
def unitLengthOk : Format → Nat → Bool
  | .hostCmd, n => n == 4
  | .resp, n => n == 1
  | .init, n => n == 1
  | .cmdFrame, n => n == 2
  | .selFrame, n => n == 3
  | .addrFrame, n => n == 5
  | .dataFrame, n => decide (3 ≤ n ∧ n ≤ 258)
  | .idResp, n => decide (4 ≤ n ∧ n ≤ 259)

/-- The encoding of a well-formed instruction has a length its format admits. -/
def UnitLength.Statement (i : Instr) : Prop := i.wf = true → unitLengthOk i.format (encode i).length = true

theorem UnitLength.sync (w : BitVec 28) : Statement (.sync w) := fun _ => rfl
theorem UnitLength.getId (w : BitVec 28) : Statement (.getId w) := fun _ => rfl
theorem UnitLength.eraseAll (w : BitVec 28) : Statement (.eraseAll w) := fun _ => rfl
theorem UnitLength.upload (w : BitVec 28) : Statement (.upload w) := fun _ => rfl
theorem UnitLength.newSession (w : BitVec 28) : Statement (.newSession w) := fun _ => rfl
theorem UnitLength.reserved0 (w : BitVec 28) : Statement (.reserved0 w) := fun _ => rfl
theorem UnitLength.reserved67 (l : BitVec 1) (w : BitVec 28) : Statement (.reserved67 l w) := fun _ => rfl
theorem UnitLength.reserved8F (l : BitVec 3) (w : BitVec 28) : Statement (.reserved8F l w) := fun _ => rfl
theorem UnitLength.init : Statement .init := fun _ => rfl
theorem UnitLength.cmdGetId : Statement .cmdGetId := fun _ => rfl
theorem UnitLength.cmdExtendedErase : Statement .cmdExtendedErase := fun _ => rfl
theorem UnitLength.cmdWriteMemory : Statement .cmdWriteMemory := fun _ => rfl
theorem UnitLength.massEraseSelector : Statement .massEraseSelector := fun _ => rfl
theorem UnitLength.addressFrame (a : Word) : Statement (.addressFrame a) := fun _ => rfl

theorem UnitLength.dataFrame (p : List Byte) : Statement (.dataFrame p) := by
  intro h
  simp only [Instr.wf, lengthOk, decide_eq_true_eq] at h
  simp only [Instr.format, unitLengthOk, encode, Machine.dataFrame_length, decide_eq_true_eq]
  omega

theorem UnitLength.respAck : Statement .respAck := fun _ => rfl
theorem UnitLength.respNack : Statement .respNack := fun _ => rfl
theorem UnitLength.respOther (b : Byte) : Statement (.respOther b) := fun _ => rfl

theorem UnitLength.getidResponse (p : List Byte) : Statement (.getidResponse p) := by
  intro h
  simp only [Instr.wf, lengthOk, decide_eq_true_eq] at h
  simp only [Instr.format, unitLengthOk, encode, Machine.idResponse_length, decide_eq_true_eq]
  omega

end Sys2Proof.Laws
end

