-- ==== Sys2Proof/Laws/Step.lean ====
section
/-! SUPPORT. Laws/Step.lean: everything a step can do when it answers a next state. -/

namespace Sys2Proof.Machine

open Sys2Proof.Safety

/-- The turns that a fetched unit can have come from, and what it decodes to. -/
theorem step_cases {s t : State} (h : step s = .next t) :
    (s.fetch = none ∧ takeTurn s.nextAction s.popTurn = .next t) ∨
    ∃ f bs i, s.fetch = some (f, bs) ∧ decode f bs = .ok i ∧ exec i s.popTurn = .next t := by
  unfold step at h
  split at h
  · exact .inl ⟨‹_›, h⟩
  · split at h
    · exact .inr ⟨_, _, _, ‹_›, ‹_›, h⟩
    · simp at h

/-- Everything one instruction can do. -/
theorem exec_cases {i : Instr} {s t : State} (h : exec i s = .next t) :
    t = s ∨
    (i.format = .hostCmd ∧ s.busy = false ∧ ∃ c, t = s.refuse c) ∨
    (i.format = .hostCmd ∧ s.busy = false ∧ ∃ op, op ≠ .newSession ∧ s.refusal op = none ∧ t = s.accept op) ∨
    ((∃ w, i = .newSession w) ∧ s.busy = false ∧ t = s.newSession) ∨
    (i = .init ∧ s.seq = .sySend ∧ t = (s.send initFrame).goto .syWait) ∨
    (i = .cmdGetId ∧ s.seq = .giSend ∧ t = (s.send (commandFrame 0x02#8)).goto .giAck) ∨
    (i = .cmdExtendedErase ∧ s.seq = .erSendCmd ∧
      t = ((s.emit .eraseStarted).send (commandFrame 0x44#8)).goto .erAckCmd) ∨
    (i = .cmdWriteMemory ∧ s.seq = .wrSendCmd ∧ t = (s.send (commandFrame 0x31#8)).goto .wrAckCmd) ∨
    (i = .massEraseSelector ∧ s.seq = .erSendSel ∧ t = (s.send selectorFrame).goto .erAckSel) ∨
    (i = .addressFrame s.chunkAddr ∧ s.seq = .wrSendAddr ∧ t = (s.send (addressFrame s.chunkAddr)).goto .wrAckAddr) ∨
    (i = .dataFrame s.chunkPayload ∧ s.seq = .wrSendData ∧
      t = { (s.send (dataFrame s.chunkPayload)).goto .wrAckData with draws := s.chunkDraws }) ∨
    (∃ b, (i = .respOther b ∨ (i = .respAck ∧ b = 0x79#8) ∨ (i = .respNack ∧ b = 0x1F#8)) ∧
      s.seq.readsResp = true ∧ s.rxq.head? = some b ∧ completeRead [b] (s.dropRx 1) = .next t) ∨
    (∃ ident, i = .getidResponse ident ∧ s.seq = .giAck ∧ idResponse ident <+: s.rxq ∧
      ∃ u v w, recvData s = .next u ∧ recvData u = .next v ∧ recvData v = .next w ∧ recvData w = .next t) := by
  have issue : ∀ op, op ≠ .newSession → whenIdle s (fun s => s.issue op) = .next t →
      t = s ∨ (s.busy = false ∧ ∃ c, t = s.refuse c) ∨
      (s.busy = false ∧ ∃ op, op ≠ .newSession ∧ s.refusal op = none ∧ t = s.accept op) := by
    intro op hop h
    rcases whenIdle_cases h with ⟨_, h⟩ | ⟨hb, h⟩
    · exact .inl h
    · rcases issue_cases s op with ⟨c, _, e⟩ | ⟨hr, e⟩
      · exact .inr (.inl ⟨hb, c, h.trans e⟩)
      · exact .inr (.inr ⟨hb, op, hop, hr, h.trans e⟩)
  have due : ∀ {p : Prop} [Decidable p] {f : State → State}, whenDue s p f = .next t → t = s ∨ (p ∧ t = f s) :=
    fun h => (whenDue_cases h).elim .inr fun h => .inl h.2
  have resp : ∀ b, takeResp b s = .next t → t = s ∨
      (s.seq.readsResp = true ∧ s.rxq.head? = some b ∧ completeRead [b] (s.dropRx 1) = .next t) :=
    fun b h => takeResp_cases h
  cases i <;> simp only [exec] at h
  case sync w => rcases issue .sync (by decide) h with h | h | h <;> simp [Instr.format, h]
  case getId w => rcases issue .getId (by decide) h with h | h | h <;> simp [Instr.format, h]
  case eraseAll w => rcases issue .eraseAll (by decide) h with h | h | h <;> simp [Instr.format, h]
  case upload w => rcases issue .upload (by decide) h with h | h | h <;> simp [Instr.format, h]
  case newSession w => rcases whenIdle_cases h with h | h <;> simp [h]
  case reserved0 w =>
    rcases whenIdle_cases h with h | h
    · exact .inl h.2
    · exact .inr (.inl ⟨rfl, h.1, _, h.2⟩)
  case reserved67 l w =>
    rcases whenIdle_cases h with h | h
    · exact .inl h.2
    · exact .inr (.inl ⟨rfl, h.1, _, h.2⟩)
  case reserved8F l w =>
    rcases whenIdle_cases h with h | h
    · exact .inl h.2
    · exact .inr (.inl ⟨rfl, h.1, _, h.2⟩)
  case init => rcases due h with h | h <;> simp [h]
  case cmdGetId => rcases due h with h | h <;> simp [h]
  case cmdExtendedErase => rcases due h with h | h <;> simp [h]
  case cmdWriteMemory => rcases due h with h | h <;> simp [h]
  case massEraseSelector => rcases due h with h | h <;> simp [h]
  case addressFrame a =>
    rcases due h with h | ⟨⟨hq, rfl⟩, h⟩
    · exact .inl h
    · simp [hq, h]
  case dataFrame p =>
    rcases due h with h | ⟨⟨hq, rfl⟩, h⟩
    · exact .inl h
    · simp [hq, h]
  case respAck => rcases resp _ h with h | h <;> simp [h]
  case respNack => rcases resp _ h with h | h <;> simp [h]
  case respOther b => rcases resp _ h with h | h <;> simp [h]
  case getidResponse ident =>
    rcases execGetidResponse_cases h with h | ⟨h1, h2, u, v, w, h3⟩
    · exact .inl h
    · iterate 12 apply Or.inr
      exact ⟨ident, rfl, h1, h2, u, v, w, h3⟩

end Sys2Proof.Machine
end

