-- ==== Sys2Proof/Machine/Script.lean ====
section
/-! DEFINITION. Machine/Script.lean: the host script syntax of R73 and its pseudo-instructions of R74, expanded into the
turns of a schedule. Where the engine's turns fall among the statements of a script is left open by R73 and R74; the
places they have here are the model's choice (DESIGN CHOICE, notes/assumptions/13.md). -/

namespace Sys2Proof.Machine

/-- A statement of a host script (R73, R74), with one of the model's own, `engineTurns`. -/
inductive Stmt
  /-- `WR <reg>, <v>`. -/
  | wr (r : HostReg) (v : Word)
  /-- `WRB <addr>, <b>`. -/
  | wrb (addr : Word) (b : Byte)
  /-- `RD <reg>`. -/
  | rd (r : HostReg)
  /-- `RDB <addr>`. -/
  | rdb (addr : Word)
  /-- `DEV <b0> <b1> ...`. -/
  | dev (bytes : List Byte)
  /-- `TIMEOUT`. -/
  | timeout
  /-- `CMD <mnemonic>`. -/
  | cmd (op : HostOp)
  /-- `polls` rounds of `WAIT`: an engine turn, then `RD STATUS`. The spec's `WAIT` polls until `BUSY` reads 0; a
  schedule is finite, so its writer says how many rounds that takes (notes/assumptions/4.md). -/
  | wait (polls : Nat)
  /-- The model's own, no statement of R73 or R74: `turns` engine turns at this place of the script. A script that is to
  follow the convention of 95_test_vectors.md (the bytes of a `DEV` arrive after the engine has sent the frame before
  them, and a `TIMEOUT` ends a read that is pending) has them before its `DEV` and `TIMEOUT` (notes/assumptions/13.md). -/
  | engineTurns (turns : Nat)
  /-- `LOADIMG <b0> ... <bk>`. -/
  | loadImg (bytes : List Byte)
  deriving DecidableEq, Repr

/-- `WRB` of consecutive bytes from `addr` on. -/
def wrbs : Word → List Byte → List Action
  | _, [] => []
  | addr, b :: bs => .hostWrite addr 8 (b.setWidth 32) :: wrbs (addr + 1) bs

/-- `n` rounds of polling, one engine turn before each poll. R74 says only that the engine and link steps interleave
meanwhile: the one turn before each poll is the model's choice (notes/assumptions/13.md). -/
def polls : Nat → List Action
  | 0 => []
  | n + 1 => .engine :: .hostRead HostReg.status.offset 32 :: polls n

/-- The turns of one statement (the "encoding" column of R73, the "expansion" column of R74). Of the spec's statements
only `WAIT` holds engine turns: a `DEV` or a `TIMEOUT` right after `CMD SYNC` acts before `SY_CLEAR`. That is the model's
choice (notes/assumptions/13.md). -/
def Stmt.actions : Stmt → List Action
  | .wr r v => [.hostWrite r.offset 32 v]
  | .wrb addr b => [.hostWrite addr 8 (b.setWidth 32)]
  | .rd r => [.hostRead r.offset 32]
  | .rdb addr => [.hostRead addr 8]
  | .dev bytes => bytes.map .linkPush
  | .timeout => [.timeout]
  | .cmd op => [.hostWrite HostReg.cmd.offset 32 (op.code.setWidth 32)]
  | .wait n => polls n
  | .engineTurns n => List.replicate n .engine
  | .loadImg bytes => wrbs 0x00010000#32 bytes ++ [.hostWrite HostReg.len.offset 32 (BitVec.ofNat 32 bytes.length)]

/-- The schedule of a script. -/
def script (p : List Stmt) : List Action := p.flatMap Stmt.actions

end Sys2Proof.Machine
end

