-- ==== Sys2Proof/Tests/Slice0.lean ====
section
/-! SUPPORT. Tests/Slice0.lean: the model's own tests. Expected values are written out from the encodings of
30_encoding.md and from the vectors of 95_test_vectors.md (named at each test), and each statement for the provers that
has hypotheses has a `witness_` theorem: a concrete state and operands that meet them together. -/

namespace Sys2Proof.Tests

open Sys2Proof.Machine Sys2Proof.Safety

/-! ## Small states -/

/-- The engine stands at step `q` of operation `op` in session `v`. -/
def running (v : Session) (op : HostOp) (q : Seq) : State :=
  { State.reset with busy := true, session := v, op := op.code, seq := q }

/-- No operation runs, in session `v`. -/
def idleIn (v : Session) : State := { State.reset with session := v }

/-- `STATUS`, the bytes sent and the events emitted after a step that answers a next state. -/
def outcome (r : StepResult) : Option (Word × List Byte × List Event) :=
  match r with
  | .next s => some (s.status, s.txlog, s.evlog)
  | .fault _ => none
  | .refused _ => none

/-- The sequencer step and `RXQ` after a step that answers a next state. -/
def position (r : StepResult) : Option (Seq × List Byte) :=
  match r with
  | .next s => some (s.seq, s.rxq)
  | .fault _ => none
  | .refused _ => none

/-! ## WellFormed refuses -/

theorem test_wf_refuses_empty_payload : (Instr.dataFrame []).wf = false := by decide
theorem test_wf_refuses_257_payload_bytes : (Instr.dataFrame (List.replicate 257 0x00#8)).wf = false := by
  simp only [Instr.wf, lengthOk, List.length_replicate]; decide
theorem test_wf_refuses_empty_identifier : (Instr.getidResponse []).wf = false := by decide
theorem test_wf_refuses_257_identifier_bytes : (Instr.getidResponse (List.replicate 257 0x00#8)).wf = false := by
  simp only [Instr.wf, lengthOk, List.length_replicate]; decide
theorem test_wf_refuses_ack_as_other : (Instr.respOther 0x79#8).wf = false := by decide
theorem test_wf_refuses_nack_as_other : (Instr.respOther 0x1F#8).wf = false := by decide

/-! ## Decoding words written out from R55 to R63 -/

theorem test_decode_sync : decode .hostCmd [0x00#8, 0x00#8, 0x00#8, 0x01#8] = .ok (.sync 0#28) := by decide
theorem test_decode_getId : decode .hostCmd [0x00#8, 0x00#8, 0x00#8, 0x02#8] = .ok (.getId 0#28) := by decide
theorem test_decode_eraseAll : decode .hostCmd [0x00#8, 0x00#8, 0x00#8, 0x03#8] = .ok (.eraseAll 0#28) := by decide
theorem test_decode_upload : decode .hostCmd [0x80#8, 0x00#8, 0x00#8, 0x14#8] = .ok (.upload 0x8000001#28) := by decide
theorem test_decode_newSession : decode .hostCmd [0x00#8, 0x00#8, 0x00#8, 0x05#8] = .ok (.newSession 0#28) := by decide
theorem test_decode_reserved0 : decode .hostCmd [0xFF#8, 0xFF#8, 0xFF#8, 0xF0#8] = .ok (.reserved0 0xFFFFFFF#28) := by
  decide
theorem test_decode_reserved6 : decode .hostCmd [0x00#8, 0x00#8, 0x00#8, 0x06#8] = .ok (.reserved67 0#1 0#28) := by decide
theorem test_decode_reserved7 : decode .hostCmd [0x00#8, 0x00#8, 0x00#8, 0x07#8] = .ok (.reserved67 1#1 0#28) := by decide
theorem test_decode_reserved8 : decode .hostCmd [0x00#8, 0x00#8, 0x00#8, 0x08#8] = .ok (.reserved8F 0#3 0#28) := by decide
theorem test_decode_reservedE : decode .hostCmd [0x00#8, 0x00#8, 0x00#8, 0x0E#8] = .ok (.reserved8F 6#3 0#28) := by decide
theorem test_decode_init : decode .init [0x7F#8] = .ok .init := by decide
theorem test_decode_cmdGetId : decode .cmdFrame [0x02#8, 0xFD#8] = .ok .cmdGetId := by decide
theorem test_decode_cmdExtendedErase : decode .cmdFrame [0x44#8, 0xBB#8] = .ok .cmdExtendedErase := by decide
theorem test_decode_cmdWriteMemory : decode .cmdFrame [0x31#8, 0xCE#8] = .ok .cmdWriteMemory := by decide
theorem test_decode_refuses_legacy_erase : decode .cmdFrame [0x43#8, 0xBC#8] = .error .unknownOpcode := by decide
theorem test_decode_refuses_bad_complement : decode .cmdFrame [0x02#8, 0xFC#8] = .error .badComplement := by decide
theorem test_decode_selector : decode .selFrame [0xFF#8, 0xFF#8, 0x00#8] = .ok .massEraseSelector := by decide
theorem test_decode_address :
    decode .addrFrame [0x12#8, 0x34#8, 0x56#8, 0x78#8, 0x08#8] = .ok (.addressFrame 0x12345678#32) := by decide
theorem test_decode_refuses_bad_address :
    decode .addrFrame [0x08#8, 0x00#8, 0x01#8, 0x00#8, 0x08#8] = .error .badChecksum := by decide
theorem test_decode_data :
    decode .dataFrame [0x03#8, 0x01#8, 0x02#8, 0x03#8, 0x04#8, 0x07#8]
      = .ok (.dataFrame [0x01#8, 0x02#8, 0x03#8, 0x04#8]) := by decide
theorem test_decode_refuses_short_data : decode .dataFrame [0x01#8, 0x12#8, 0x27#8] = .error .wrongLength := by decide
theorem test_decode_ack : decode .resp [0x79#8] = .ok .respAck := by decide
theorem test_decode_nack : decode .resp [0x1F#8] = .ok .respNack := by decide
theorem test_decode_other : decode .resp [0x7F#8] = .ok (.respOther 0x7F#8) := by decide
theorem test_decode_identifier :
    decode .idResp [0x79#8, 0x01#8, 0x04#8, 0x13#8, 0x79#8] = .ok (.getidResponse [0x04#8, 0x13#8]) := by decide
theorem test_decode_refuses_short_identifier :
    decode .idResp [0x79#8, 0x01#8, 0x5A#8, 0x79#8] = .error .wrongLength := by decide

/-! ## Words numbered as spec/opcode_table.json numbers them -/

theorem test_table_upload : decodeTableWord 32 0x00000004 = some (.upload 0#28) := by decide
theorem test_table_reserved8F : decodeTableWord 32 0x00000008 = some (.reserved8F 0#3 0#28) := by decide
theorem test_table_init : decodeTableWord 8 0x7F = some .init := by decide
theorem test_table_cmdGetId : decodeTableWord 16 0x02FD = some .cmdGetId := by decide
theorem test_table_selector : decodeTableWord 24 0xFFFF00 = some .massEraseSelector := by decide
theorem test_table_address : decodeTableWord 40 0x0800010009 = some (.addressFrame 0x08000100#32) := by decide
theorem test_table_data : decodeTableWord 24 0x00AAAA = some (.dataFrame [0xAA#8]) := by decide
theorem test_table_ack : decodeTableWord 8 0x79 = some .respAck := by decide
theorem test_table_other : decodeTableWord 8 0x00 = some (.respOther 0x00#8) := by decide
theorem test_table_identifier : decodeTableWord 40 0x7901041379 = some (.getidResponse [0x04#8, 0x13#8]) := by decide

/-! ## A placed word runs in the very next step -/

theorem test_placed_sync_starts :
    position (step (State.reset.withFetchWord 32 0x31)) = some (.syClear, []) := by decide
theorem test_placed_init_is_sent :
    (outcome (step (State.reset.withFetchWord 8 0x7F))).map (fun o => o.2.1) = some [0x7F#8] := by decide
theorem test_placed_address_is_sent :
    (outcome (step (State.reset.withFetchWord 40 0x0800010009))).map (fun o => o.2.1)
      = some [0x08#8, 0x00#8, 0x01#8, 0x00#8, 0x09#8] := by decide
theorem test_placed_data_is_sent :
    (outcome (step (State.reset.withFetchWord 32 0x01123427))).map (fun o => o.2.1) = some [] := by decide
theorem test_placed_identifier_is_stored :
    outcome (step (State.reset.withFetchWord 40 0x7901041379))
      = some (0x00000110#32, [], [.chipIdReceived [0x04#8, 0x13#8]]) := by decide

/-! ## One step of each instruction -/

/-- V4, last row: `STATUS = 0x00000001` while SYNC runs. -/
theorem test_sync_accepted : outcome (exec (.sync 0#28) State.reset) = some (0x00000001#32, [], []) := by decide
/-- V4: SYNC in SYNCHRONIZED, `STATUS = 0x00000802`. -/
theorem test_sync_refused : outcome (exec (.sync 0#28) (idleIn .synchronized)) = some (0x00000802#32, [], []) := by decide
theorem test_getId_accepted : position (exec (.getId 0#28) (idleIn .synchronized)) = some (.giSend, []) := by decide
/-- V5: GET_ID in UNINITIALIZED, `STATUS = 0x00000800`. -/
theorem test_getId_refused : outcome (exec (.getId 0#28) State.reset) = some (0x00000800#32, [], []) := by decide
theorem test_eraseAll_accepted : position (exec (.eraseAll 0#28) (idleIn .synchronized)) = some (.erSendCmd, []) := by
  decide
/-- V6: ERASE_ALL in ERASED is refused with CONTRACT_ERROR. -/
theorem test_eraseAll_refused : outcome (exec (.eraseAll 0#28) (idleIn .erased)) = some (0x00000804#32, [], []) := by decide
theorem test_upload_accepted : position (exec (.upload 0#28) (idleIn .erased)) = some (.upNext, []) := by decide
/-- V8: `BASE = FFFFFF00`, `LEN = 101` is refused, `STATUS = 0x00000804`. -/
theorem test_upload_refused :
    exec (.upload 0#28) { idleIn .erased with base := 0xFFFFFF00#32, len := 0x101#32 }
      = .next { idleIn .erased with base := 0xFFFFFF00#32, len := 0x101#32, result := .contractError } := by
  simp [exec, execUpload, whenIdle, State.issue, State.refusal, State.legal, State.uploadOperandsOk, State.refuse,
    Session.terminal, idleIn, State.reset]
/-- V9: NEW_SESSION in FAILED, `STATUS = 0x00000100`. -/
theorem test_newSession_leaves_failed :
    outcome (exec (.newSession 0#28)
        { idleIn .failed with failKind := some .nack, failStage := .writeAddr, result := .chunkFailed })
      = some (0x00000100#32, [], []) := by decide
/-- V9: SYNC running, `WR CMD, 0x5` is ignored. -/
theorem test_newSession_ignored_while_busy :
    outcome (exec (.newSession 0#28) (running .uninitialized .sync .syWait)) = some (0x00000001#32, [], []) := by decide
theorem test_reserved0_refused : outcome (exec (.reserved0 0#28) State.reset) = some (0x00000800#32, [], []) := by decide
theorem test_reserved67_refused :
    outcome (exec (.reserved67 1#1 0#28) (idleIn .complete)) = some (0x00000808#32, [], []) := by decide
theorem test_reserved8F_refused :
    outcome (exec (.reserved8F 7#3 0#28) (idleIn .failed)) = some (0x0000080A#32, [], []) := by decide
/-- E5: `TXLOG += 7F`. -/
theorem test_init_sent :
    outcome (exec .init (running .uninitialized .sync .sySend)) = some (0x00000001#32, [0x7F#8], []) := by decide
/-- E7: `TXLOG += 02 FD`. -/
theorem test_cmdGetId_sent :
    outcome (exec .cmdGetId (running .synchronized .getId .giSend)) = some (0x00000003#32, [0x02#8, 0xFD#8], []) := by decide
/-- V6: `44 BB`, with `EraseStarted`. -/
theorem test_cmdExtendedErase_sent :
    outcome (exec .cmdExtendedErase (running .synchronized .eraseAll .erSendCmd))
      = some (0x00000003#32, [0x44#8, 0xBB#8], [.eraseStarted]) := by decide
/-- V7: `31 CE`. -/
theorem test_cmdWriteMemory_sent :
    outcome (exec .cmdWriteMemory (running .programming .upload .wrSendCmd))
      = some (0x00000007#32, [0x31#8, 0xCE#8], []) := by decide
/-- V6: `FF FF 00`. -/
theorem test_selector_sent :
    outcome (exec .massEraseSelector (running .synchronized .eraseAll .erSendSel))
      = some (0x00000003#32, [0xFF#8, 0xFF#8, 0x00#8], []) := by decide
/-- V1: `AddressFrame(FFFFFF00)`. -/
theorem test_address_sent :
    outcome (exec (.addressFrame 0xFFFFFF00#32)
        { running .programming .upload .wrSendAddr with chunkAddr := 0xFFFFFF00#32 })
      = some (0x00000007#32, [0xFF#8, 0xFF#8, 0xFF#8, 0x00#8, 0xFF#8], []) := by decide
/-- V7: `00 AA AA` for `IMG[0] = AA`, `LEN = 1`. -/
theorem test_data_sent :
    outcome (exec (.dataFrame [0xAA#8])
        { running .programming .upload .wrSendData with chunkLen := 1#9, mem := [(0x10000, 0xAA#8)] })
      = some (0x00000007#32, [0x00#8, 0xAA#8, 0xAA#8], []) := by decide
/-- E5: `DEV 79`, `STATUS = 0x00000102`. -/
theorem test_ack_synchronizes :
    outcome (exec .respAck { running .uninitialized .sync .syWait with rxq := [0x79#8] })
      = some (0x00000102#32, [], [.synchronized]) := by decide
/-- V6: the second ACK, `STATUS = 0x00000104`. -/
theorem test_ack_ends_erase :
    outcome (exec .respAck { running .synchronized .eraseAll .erAckSel with rxq := [0x79#8] })
      = some (0x00000104#32, [], [.eraseComplete]) := by decide
/-- V4: `DEV 1F`, `STATUS = 0x0001330A`. -/
theorem test_nack_at_sync :
    outcome (exec .respNack { running .uninitialized .sync .syWait with rxq := [0x1F#8] })
      = some (0x0001330A#32, [], [.failed .sync (.kind .unexpectedByte)]) := by decide
/-- V7: NACK at WRITE_ADDR, `STATUS = 0x0009460A`. -/
theorem test_nack_at_write_address :
    outcome (exec .respNack
        { running .programming .upload .wrAckAddr with rxq := [0x1F#8], chunkAddr := 0x08000000#32 })
      = some (0x0009460A#32, [], [.failed .writeAddr (.chunkFailed 0x08000000#32 .nack)]) := by decide
/-- V4: `DEV 00 79`, the `79` stays in `RXQ`. -/
theorem test_other_leaves_the_rest :
    position (exec (.respOther 0x00#8) { running .uninitialized .sync .syWait with rxq := [0x00#8, 0x79#8] })
      = some (.idle, [0x79#8]) := by decide
/-- E5: `DEV 00`, `STATUS = 0x0001330A`. -/
theorem test_other_at_sync :
    outcome (exec (.respOther 0x00#8) { running .uninitialized .sync .syWait with rxq := [0x00#8] })
      = some (0x0001330A#32, [], [.failed .sync (.kind .unexpectedByte)]) := by decide
/-- V5, first row: `STATUS = 0x00000112`. -/
theorem test_identifier_stored :
    outcome (exec (.getidResponse [0x42#8])
        { running .synchronized .getId .giAck with rxq := [0x79#8, 0x00#8, 0x42#8, 0x79#8] })
      = some (0x00000112#32, [], [.chipIdReceived [0x42#8]]) := by decide
/-- V5, third row: identifier bytes are not decoded. -/
theorem test_identifier_bytes_are_raw :
    outcome (exec (.getidResponse [0x79#8, 0x1F#8])
        { running .synchronized .getId .giAck with rxq := [0x79#8, 0x01#8, 0x79#8, 0x1F#8, 0x79#8] })
      = some (0x00000112#32, [], [.chipIdReceived [0x79#8, 0x1F#8]]) := by decide

/-! ## One step without a unit -/

/-- E5: `TIMEOUT`, `STATUS = 0x0001220A`. -/
theorem test_timeout_at_sync :
    outcome (step { running .uninitialized .sync .syWait with sched := [.timeout] })
      = some (0x0001220A#32, [], [.failed .sync (.kind .noResponse)]) := by decide
/-- E7: the final ACK times out, `STATUS = 0x0005550A`. -/
theorem test_timeout_at_final :
    outcome (step { running .synchronized .getId .giFinal with sched := [.timeout] })
      = some (0x0005550A#32, [], [.failed .getidFinal (.kind .desync)]) := by decide
/-- V5: `DEV 11 22` then `TIMEOUT` at `IDN = 03`: DESYNC at GETID_DATA, the two bytes taken. -/
theorem test_short_identifier :
    position (step { running .synchronized .getId .giData with
      idn := 0x03#8, rxq := [0x11#8, 0x22#8], sched := [.timeout] }) = some (.idle, []) := by decide
/-- E9: the stale `79` is cleared before the handshake. -/
theorem test_stale_bytes_cleared :
    position (step { running .uninitialized .sync .syClear with rxq := [0x79#8] }) = some (.sySend, []) := by decide
/-- V9: `RDB 0x004` reads 0, `RD 0x028` reads 0. -/
theorem test_wrong_width_reads_zero :
    (State.reset.hostReadValue 0x004#32 8, State.reset.hostReadValue 0x028#32 32) = (0#32, 0#32) := by decide
/-- V9: at power-on `RD TACK` reads 1000, `RD TERASE` reads 30000, `RD STATUS` reads 0. -/
theorem test_power_on_registers :
    (State.reset.hostReadValue 0x01C#32 32, State.reset.hostReadValue 0x020#32 32,
      State.reset.hostReadValue 0x004#32 32) = (1000#32, 30000#32, 0#32) := by decide
/-- V9: `CHIPID_LEN = 2`, `RDB 0x102` reads `00`, and `RDB 0x101` the second byte. -/
theorem test_chipid_window :
    let s := { idleIn .synchronized with mem := [(0x100, 0x04#8), (0x101, 0x13#8)], chipidLen := 2#9, idValid := true }
    (s.hostReadValue 0x101#32 8, s.hostReadValue 0x102#32 8) = (0x13#32, 0x00#32) := by decide
/-- V9: UPLOAD running, `WR LEN, 5` is ignored. -/
theorem test_len_write_ignored_while_busy :
    (running .programming .upload .wrAckCmd).hostWrite 0x00C#32 32 5#32 = running .programming .upload .wrAckCmd := by
  decide

/-! ## A script's turns -/

/-- E5, first row, under the convention of 95_test_vectors.md: the engine clears and sends before the answer arrives. -/
theorem test_script_answer_after_the_frame :
    script [.cmd .sync, .engineTurns 2, .dev [0x79#8], .wait 1]
      = [.hostWrite 0x000#32 32 0x1#32, .engine, .engine, .linkPush 0x79#8, .engine, .hostRead 0x004#32 32] := by decide

/-! ## Witnesses: states and operands that meet the hypotheses of the statements -/

/-- A state whose memory lists nothing satisfies the two parts of `Inv` about memory. -/
theorem inv_of_empty {s : State} (hm : s.mem = [])
    (h : BusyIffRunning s ∧ OperationRecorded s ∧ SessionFits s ∧ UploadFits s ∧ ChunkFits s ∧ IdentifierFits s ∧
      FailureRecorded s) : Inv s := by
  obtain ⟨h1, h2, h3, h4, h5, h6, h7⟩ := h
  refine ⟨h1, h2, h3, h4, h5, h6, fun i _ hi => ?_, h7, ?_⟩
  · have : inChipid (chipidBase + i) = true := by unfold inChipid chipidBase; exact decide_eq_true (by omega)
    simp [hm, readByte_nil, unlisted, this]
  · simp [MemoryFits, hm, Memory.wf]

/-- `Inv` of a state in which no operation runs, not in FAILED, before an identifier is received. -/
theorem inv_idle_state {s : State} (hm : s.mem = []) (hb : s.busy = false) (hq : s.seq = .idle)
    (hs : s.session ≠ .programming ∧ s.session ≠ .failed) (hi : s.idValid = false ∧ s.chipidLen = 0#9)
    (hf : s.failStage = .none ∧ s.failKind = none ∧ s.failAddr = 0#32) : Inv s :=
  inv_of_empty hm
    ⟨by simp [BusyIffRunning, hb, hq], by simp [OperationRecorded, hq, operation], by simp [SessionFits, hq, operation, hs],
      by simp [UploadFits, hq, operation], by simp [ChunkFits, hq, writing], by simp [IdentifierFits, hi, hq],
      by simp [FailureRecorded, hs, hf]⟩

/-- UPLOAD of `len` bytes at its first `UP_NEXT`. -/
def uploading (len : Word) : State := { running .erased .upload .upNext with len := len }

theorem uploading_inv {len : Word} (h : len.toNat ≤ 1) : Inv (uploading len) := by
  have h1 := imageMax_pos
  refine inv_of_empty rfl ⟨?_, ?_, ?_, ?_, ?_, ?_, ?_⟩
  · simp [BusyIffRunning, uploading, running]
  · simp [OperationRecorded, uploading, running, operation, State.reset]
  · simp [SessionFits, uploading, running, operation, writing, State.reset]
  · intro _; simp [uploading, running, State.reset]; omega
  · simp [ChunkFits, uploading, running, writing]
  · simp [IdentifierFits, uploading, running, State.reset]
  · simp [FailureRecorded, uploading, running, State.reset]

theorem witness_DecodeOfEncodeIsTheInstruction :
    (Instr.dataFrame [0x00#8]).wf = true ∧ (Instr.getidResponse [0x42#8]).wf = true ∧ (Instr.respOther 0xFF#8).wf = true ∧
      (Instr.reserved8F 7#3 0#28).wf = true := by decide

theorem witness_DecodeOfEncode_longest : (Instr.dataFrame (List.replicate 256 0xFF#8)).wf = true := by
  simp only [Instr.wf, lengthOk, List.length_replicate]; decide

theorem witness_EncodeOfDecodeIsTheBytes :
    decode .dataFrame [0x00#8, 0xAA#8, 0xAA#8] = .ok (.dataFrame [0xAA#8]) ∧
      decode .resp [0x00#8] = .ok (.respOther 0x00#8) := by decide

theorem witness_CommandIgnoresUpperBits :
    (0x00000001#32).extractLsb' 0 4 = (0xFFFFFFF1#32).extractLsb' 0 4 := by decide

theorem witness_ChecksumLaws_payload :
    (1 ≤ [0xAA#8].length ∧ [0xAA#8].length ≤ 256) ∧
      (1 ≤ (List.replicate 256 0xFF#8).length ∧ (List.replicate 256 0xFF#8).length ≤ 256) := by
  simp only [List.length_replicate]; decide

/-- E3: address byte 0, then byte 3, changed alone. -/
theorem witness_ChecksumLaws_address :
    ((0x08000000#32).extractLsb' (8 * 0) 8 ≠ (0x08000001#32).extractLsb' (8 * 0) 8 ∧
      ∀ j, j < 4 → j ≠ 0 → (0x08000000#32).extractLsb' (8 * j) 8 = (0x08000001#32).extractLsb' (8 * j) 8) ∧
    ((0x08000000#32).extractLsb' (8 * 3) 8 ≠ (0x09000000#32).extractLsb' (8 * 3) 8 ∧
      ∀ j, j < 4 → j ≠ 3 → (0x08000000#32).extractLsb' (8 * j) 8 = (0x09000000#32).extractLsb' (8 * j) 8) := by decide

theorem witness_ResponseDecoderCases : (0x7F#8 : Byte) ≠ 0x79#8 ∧ (0x7F#8 : Byte) ≠ 0x1F#8 := by decide

theorem witness_StepRunsTheDecodedInstruction :
    (running .uninitialized .sync .sySend).fetch = some (.init, [0x7F#8]) ∧ decode .init [0x7F#8] = .ok .init := by decide

theorem witness_CommandWriteRunsItsOperation :
    ({ State.reset with sched := [.hostWrite 0x000#32 32 0x31#32] } : State).sched = [.hostWrite 0x000#32 32 0x31#32] := rfl

/-- Every step that sends, with the engine's turn next. -/
theorem witness_EngineTurnRunsTheDueUnit_sends :
    ∀ q ∈ [Seq.sySend, .giSend, .erSendCmd, .erSendSel, .wrSendCmd, .wrSendAddr],
      ({ running .programming .upload q with sched := [.engine] } : State).sched = [.engine] ∧
        (running .programming .upload q).seq = q := by decide

theorem witness_EngineTurnRunsTheDueUnit_data :
    let s := { running .programming .upload .wrSendData with sched := [.engine], chunkLen := 256#9 }
    s.sched = [.engine] ∧ s.seq = .wrSendData ∧ 1 ≤ s.chunkLen.toNat ∧ s.chunkLen.toNat ≤ 256 := by decide

/-- Every step that reads a response, with ACK, NACK and another byte waiting. -/
theorem witness_EngineTurnRunsTheDueUnit_reads :
    ∀ q ∈ [Seq.syWait, .giAck, .giFinal, .erAckCmd, .erAckSel, .wrAckCmd, .wrAckAddr, .wrAckData],
      ∀ b ∈ [0x79#8, 0x1F#8, 0x00#8],
        ({ running .programming .upload q with sched := [.engine], rxq := [b] } : State).seq.readsResp = true ∧
          ({ running .programming .upload q with sched := [.engine], rxq := [b] } : State).rxq = [b] := by decide

theorem witness_EngineTurnsWithoutUnit :
    (({ State.reset with sched := [.engine] } : State).seq = .idle) ∧
    (running .uninitialized .sync .syClear).seq = .syClear ∧
    (let s := { running .synchronized .getId .giLen with sched := [.engine], rxq := [0xFF#8] }
     s.sched = [.engine] ∧ s.seq = .giLen ∧ s.rxq = [0xFF#8]) ∧
    (let s := { running .synchronized .getId .giData with sched := [.engine], rxq := [0x42#8] }
     s.sched = [.engine] ∧ s.seq = .giData ∧ s.idn.toNat + 1 ≤ s.rxq.length) := by decide

theorem witness_EngineWaitsForTheRead :
    let s := { running .synchronized .getId .giData with sched := [.engine], idn := 0xFF#8, rxq := [0x42#8] }
    s.sched = [.engine] ∧ s.pendingRead = some (256, .tack) ∧ s.rxq.length < 256 := by decide

/-- Each reading step with a read that can end short, one that cannot, and a step with no pending read. -/
theorem witness_TimeoutFailsTheStage :
    (let s := { running .synchronized .eraseAll .erAckSel with sched := [.timeout] }
     s.sched = [.timeout] ∧ s.pendingRead = some (1, .terase) ∧ stageOf s.seq = some .eraseSel ∧ s.rxq.length < 1) ∧
    (let s := { running .synchronized .getId .giData with sched := [.timeout], rxq := [0x42#8] }
     s.pendingRead = some (1, .tack) ∧ stageOf s.seq = some .getidData ∧ 1 ≤ s.rxq.length) ∧
    ({ State.reset with sched := [.timeout] } : State).pendingRead = none := by decide

theorem witness_EveryReadHasItsTimeoutRegister :
    ({ running .synchronized .getId .giData with idn := 0xFF#8 } : State).pendingRead = some (256, .tack) ∧
      (running .synchronized .eraseAll .erAckSel).pendingRead = some (1, .terase) ∧ State.reset.pendingRead = none := by
  decide

theorem witness_LinkPushAppendsToTheQueue :
    ({ State.reset with sched := [.linkPush 0x79#8] } : State).sched = [.linkPush 0x79#8] := rfl

theorem witness_BusyBlocksHostWrites :
    (let s := { running .programming .upload .wrSendCmd with sched := [.hostWrite 0x00C#32 32 5#32] }
     s.busy = true ∧ s.sched = [.hostWrite 0x00C#32 32 5#32]) ∧ (0x00C#32 : Word) ≠ 0x004#32 := by decide

theorem witness_BusyBlocksHostWrites_step :
    (running .programming .upload .wrSendCmd).busy = true ∧
      (running .programming .upload .wrSendCmd).nextAction ≠ .powerOn ∧
      ∃ t, step (running .programming .upload .wrSendCmd) = .next t := ⟨rfl, by decide, _, rfl⟩

/-- The first reserved offset, a misaligned one, an 8-bit access to a register, the address before and the one after the
`CHIPID` window, a 32-bit access in it, and the address before the image window. -/
theorem witness_ImproperAccessHasNoEffect :
    ¬ ProperAccess 0x028#32 32 ∧ ¬ ProperAccess 0x002#32 32 ∧ ¬ ProperAccess 0x004#32 8 ∧ ¬ ProperAccess 0x0FF#32 8 ∧
      ¬ ProperAccess 0x200#32 8 ∧ ¬ ProperAccess 0x100#32 32 ∧ ¬ ProperAccess 0xFFFF#32 8 := by
  simp [ProperAccess]

theorem witness_ImproperAccess_turns :
    ({ State.reset with sched := [.hostWrite 0x028#32 32 1#32] } : State).sched = [.hostWrite 0x028#32 32 1#32] ∧
      ({ State.reset with sched := [.hostRead 0x004#32 8] } : State).sched = [.hostRead 0x004#32 8] := ⟨rfl, rfl⟩

theorem witness_HostReadHasNoSideEffect :
    ({ State.reset with sched := [.hostRead 0x004#32 32] } : State).sched = [.hostRead 0x004#32 32] := rfl

theorem witness_RegisterReadsReturnTheRegister :
    ∀ r ∈ [HostReg.cmd, .status, .base, .len, .failAddr, .bytesWritten, .chipidLen, .tack, .terase, .imgmax],
      ({ State.reset with sched := [.hostRead r.offset 32] } : State).sched = [.hostRead r.offset 32] := by decide

theorem witness_RegisterWritesStoreTheValue :
    ∀ r ∈ [HostReg.base, .len, .tack, .terase, .status, .failAddr, .bytesWritten, .chipidLen, .imgmax],
      (let s := { State.reset with sched := [.hostWrite r.offset 32 0xFFFFFFFF#32] }
       s.busy = false ∧ s.sched = [.hostWrite r.offset 32 0xFFFFFFFF#32]) := by decide

/-- The first and the last byte of the image window. -/
theorem witness_ImageWriteThenReadReturnsTheByte :
    State.reset.busy = false ∧ 0x10000 ≤ (0x10000#32).toNat ∧ (0x10000#32).toNat < 0x10000 + Config.imageMax ∧
      (BitVec.ofNat 32 (0xFFFF + Config.imageMax)).toNat = 0xFFFF + Config.imageMax := by
  have h1 := imageMax_pos
  have h2 := imageMax_le
  refine ⟨rfl, by decide, ?_, ?_⟩ <;> simp <;> omega

theorem witness_UnwrittenImageByteReadsAsAFreeDraw :
    let s := { State.reset with sched := [.hostRead 0x10000#32 8] }
    0x10000 ≤ (0x10000#32).toNat ∧ (0x10000#32).toNat < 0x10000 + Config.imageMax ∧
      readByte s.mem (0x10000#32).toNat = none ∧ s.sched = [.hostRead 0x10000#32 8] := by
  have h1 := imageMax_pos
  refine ⟨by decide, ?_, by decide, rfl⟩
  simp; omega

/-- The first and the last byte of the `CHIPID` window, read and written. -/
theorem witness_ChipidWindowReadsTheIdentifier :
    ∀ i ∈ [0, 255],
      (Inv { State.reset with sched := [.hostRead (BitVec.ofNat 32 (0x100 + i)) 8] } ∧ i < 256 ∧
        State.reset.chipidLen.toNat ≤ i) ∧
      Inv { State.reset with sched := [.hostWrite (BitVec.ofNat 32 (0x100 + i)) 8 1#32] } := by
  intro i hi
  refine ⟨⟨inv_idle_state rfl rfl rfl ⟨by simp [State.reset], by simp [State.reset]⟩ ⟨rfl, rfl⟩ ⟨rfl, rfl, rfl⟩, ?_, Nat.zero_le _⟩,
    inv_idle_state rfl rfl rfl ⟨by simp [State.reset], by simp [State.reset]⟩ ⟨rfl, rfl⟩ ⟨rfl, rfl, rfl⟩⟩
  simp at hi; omega

theorem witness_AcceptedOperationStarts :
    (State.reset.busy = false ∧ State.reset.session = .uninitialized) ∧
    ((idleIn .synchronized).busy = false ∧ (idleIn .synchronized).session = .synchronized ∧
      (idleIn .synchronized).idValid = false) := by decide

/-- `BASE + LEN = 2^32` exactly, and an empty image. -/
theorem witness_AcceptedOperationStarts_upload :
    ∀ l ∈ [0#32, 1#32],
      let s := { idleIn .erased with base := 0xFFFFFFFF#32, len := l }
      s.busy = false ∧ s.session = .erased ∧ s.len.toNat ≤ Config.imageMax ∧ s.base.toNat + s.len.toNat ≤ 2 ^ 32 := by
  have h1 := imageMax_pos
  intro l hl
  simp at hl
  rcases hl with rfl | rfl <;> simp [idleIn, State.reset]
  omega

theorem witness_RefusedOperationSetsOnlyResult :
    ∀ v ∈ [Session.complete, .failed, .synchronized, .erased, .programming, .uninitialized],
      (idleIn v).busy = false ∧ (idleIn v).session = v := by decide

theorem witness_RefusedOperationSetsOnlyResult_secondIdentifier :
    let s := { idleIn .synchronized with idValid := true }
    s.busy = false ∧ s.session = .synchronized ∧ s.idValid = true := by decide

/-- `LEN = IMAGE_MAX + 1`, and `BASE + LEN = 2^32 + 1`. -/
theorem witness_RefusedOperationSetsOnlyResult_operands :
    Config.imageMax < (BitVec.ofNat 32 (Config.imageMax + 1)).toNat ∧
      2 ^ 32 < (0xFFFFFFFF#32).toNat + (2#32).toNat := by
  have h2 := imageMax_le
  refine ⟨?_, by decide⟩
  simp; omega

theorem witness_ReservedCodeIsRefused : (idleIn .failed).busy = false := rfl

theorem witness_CommandWhileBusyIsIgnored :
    (Instr.newSession 0#28).format = .hostCmd ∧ (running .uninitialized .sync .syWait).busy = true := by decide

theorem witness_NewSessionStartsOver : (idleIn .failed).busy = false := rfl

theorem witness_ConstantFrameIsSentAtItsStep :
    ∀ q ∈ [Seq.sySend, .giSend, .erSendCmd, .erSendSel, .wrSendCmd], (running .programming .upload q).seq = q := by decide

theorem witness_AddressFrameIsSentAtItsStep : (running .programming .upload .wrSendAddr).seq = .wrSendAddr := rfl

/-- The longest chunk, with its last byte written. -/
theorem witness_DataFrameIsSentAtItsStep :
    let s := { running .programming .upload .wrSendData with chunkLen := 256#9, mem := [(0x100FF, 0xAA#8)] }
    s.seq = .wrSendData ∧ 255 < s.chunkLen.toNat ∧
      readByte s.mem (imgBase + (s.bytesWritten.toNat + 255)) = some 0xAA#8 := by decide

theorem witness_UnitNotDueDoesNothing :
    ∀ q ∈ [Seq.sySend, .giSend, .erSendCmd, .erSendSel, .wrSendCmd, .wrSendAddr, .wrSendData, .giAck],
      State.reset.seq ≠ q ∧ State.reset.seq.readsResp = false := by decide

theorem witness_UnitNotDueDoesNothing_operand :
    (let s := { running .programming .upload .wrSendAddr with chunkAddr := 1#32 }
     s.seq = .wrSendAddr ∧ (0#32 : Word) ≠ s.chunkAddr) ∧
    (running .synchronized .getId .giAck).rxq.head? ≠ some 0x79#8 := by decide

theorem witness_AckMovesToTheNextStep :
    ∀ q ∈ [Seq.giAck, .erAckCmd, .wrAckCmd, .wrAckAddr],
      ({ running .synchronized .getId q with rxq := [0x79#8] } : State).rxq = [0x79#8] ∧
        (running .synchronized .getId q).seq = q := by decide

theorem witness_AckEndsSyncAndErase :
    ∀ q ∈ [Seq.syWait, .erAckSel],
      ({ running .synchronized .eraseAll q with rxq := [0x79#8, 0x00#8] } : State).rxq = 0x79#8 :: [0x00#8] ∧
        (running .synchronized .eraseAll q).seq = q := by decide

theorem witness_AckAtTheDataStageAccountsTheChunk :
    let s := { running .programming .upload .wrAckData with
      bytesWritten := 0xFFFFFEFF#32, chunkLen := 256#9, rxq := [0x79#8] }
    s.seq = .wrAckData ∧ s.rxq = [0x79#8] ∧ s.bytesWritten.toNat + s.chunkLen.toNat < 2 ^ 32 := by decide

theorem witness_FinalAckStoresTheIdentifier :
    let s := { running .synchronized .getId .giFinal with rxq := [0x79#8], idn := 0x01#8, idtmp := [0x04#8, 0x13#8] }
    s.seq = .giFinal ∧ s.rxq = [0x79#8] ∧ s.idtmp.length = s.idn.toNat + 1 := by decide

theorem witness_FinalAckStoresTheIdentifier_longest :
    (List.replicate 256 0x42#8).length = (0xFF#8 : Byte).toNat + 1 := by simp only [List.length_replicate]; decide

theorem witness_NackFailsTheStage :
    ∀ q ∈ [Seq.syWait, .giAck, .giFinal, .erAckCmd, .erAckSel, .wrAckCmd, .wrAckAddr, .wrAckData],
      ({ running .programming .upload q with rxq := [0x1F#8] } : State).seq.readsResp = true ∧
        (stageOf q).isSome = true := by decide

theorem witness_OtherByteFailsTheStage :
    let s := { running .programming .upload .wrAckData with rxq := [0x7F#8] }
    s.seq.readsResp = true ∧ stageOf s.seq = some .writeData ∧ (0x7F#8 : Byte) ≠ 0x79#8 ∧ (0x7F#8 : Byte) ≠ 0x1F#8 ∧
      s.rxq = [0x7F#8] := by decide

theorem witness_FailureEntryRecordsTheFailure :
    ∀ g ∈ [Stage.sync, .getidCmd, .getidLen, .getidData, .getidFinal, .eraseCmd, .eraseSel],
      g ≠ .writeCmd ∧ g ≠ .writeAddr ∧ g ≠ .writeData := by decide

theorem witness_GetidResponseStoresTheIdentifier :
    let s := { running .synchronized .getId .giAck with rxq := [0x79#8, 0x00#8, 0x42#8, 0x79#8, 0x01#8] }
    s.seq = .giAck ∧ s.rxq = 0x79#8 :: BitVec.ofNat 8 ([0x42#8].length - 1) :: ([0x42#8] ++ (0x79#8 :: [0x01#8])) := by
  decide

theorem witness_GetidResponseStoresTheIdentifier_longest :
    let s := { running .synchronized .getId .giAck with
      rxq := 0x79#8 :: BitVec.ofNat 8 (256 - 1) :: (List.replicate 256 0x42#8 ++ [0x79#8]) }
    s.seq = .giAck ∧ (List.replicate 256 0x42#8).length ≤ 256 ∧
      s.rxq = 0x79#8 :: BitVec.ofNat 8 ((List.replicate 256 0x42#8).length - 1) :: (List.replicate 256 0x42#8 ++ [0x79#8]) :=
  ⟨rfl, by rw [List.length_replicate], by rw [List.length_replicate]⟩

theorem witness_GetidResponseIsFourEngineSteps :
    let s := { running .synchronized .getId .giAck with rxq := [0x79#8, 0x00#8, 0x42#8, 0x79#8, 0x01#8] }
    s.seq = .giAck ∧ s.sched = [] ∧ idResponse [0x42#8] <+: s.rxq := by decide

theorem witness_InstructionsWriteOnlyTheIdentifierBuffer :
    Instr.cmdWriteMemory.wf = true ∧
      ∃ t, exec .cmdWriteMemory (running .programming .upload .wrSendCmd) = .next t := ⟨rfl, _, rfl⟩

theorem witness_InstructionsWriteOnlyTheIdentifierBuffer_changes :
    ∃ t, exec (.newSession 0#28) { idleIn .complete with mem := [(0x100, 0x42#8)] } = .next t ∧
      t.mem ≠ [(0x100, 0x42#8)] := ⟨_, rfl, by decide⟩

theorem witness_UpNextPicksTheNextChunkOrCompletes :
    (let s := { uploading 0#32 with sched := [.engine] }
     s.sched = [.engine] ∧ s.seq = .upNext ∧ s.bytesWritten = s.len) ∧
    (let s := { uploading 0x100#32 with sched := [.engine], base := 0xFFFFFFFF#32 }
     s.seq = .upNext ∧ s.bytesWritten.toNat < s.len.toNat ∧ s.base.toNat + s.bytesWritten.toNat < 2 ^ 32) := by decide

theorem witness_UpNextFollowsThePlan :
    Inv (uploading 1#32) ∧ (uploading 1#32).nextAction = .engine ∧ (uploading 1#32).seq = .upNext ∧
      (uploading 1#32).bytesWritten.toNat = planOffset 0 ∧ 0 < planCount (uploading 1#32).len.toNat ∧
      ∃ t, step (uploading 1#32) = .next t := ⟨uploading_inv (by decide), rfl, rfl, rfl, by decide, _, rfl⟩

/-- An image of one byte at the last target address. -/
theorem witness_UploadPlanCoversTheImage :
    1 ≤ Config.imageMax ∧ 0xFFFFFFFF + 1 ≤ 2 ^ 32 ∧ 1 ≤ planCount 1 ∧ 1 + 1 < planCount 513 :=
  ⟨imageMax_pos, by decide, by decide, by decide⟩

/-- No chunk, and one chunk. -/
theorem witness_AcknowledgedUploadCompletes :
    (Inv (uploading 0#32) ∧ (uploading 0#32).seq = .upNext ∧ (uploading 0#32).sched = [] ∧
      0 = planCount ((uploading 0#32).len.toNat - (uploading 0#32).bytesWritten.toNat) ∧
      (uploading 0#32).rxq = List.replicate (3 * 0) 0x79#8 ++ []) ∧
    (let s := { uploading 1#32 with rxq := [0x79#8, 0x79#8, 0x79#8] }
     Inv s ∧ s.seq = .upNext ∧ s.sched = [] ∧ 1 = planCount (s.len.toNat - s.bytesWritten.toNat) ∧
        s.rxq = List.replicate (3 * 1) 0x79#8 ++ []) :=
  ⟨⟨uploading_inv (by decide), rfl, rfl, by decide, rfl⟩, ⟨uploading_inv (len := 1#32) (by decide), rfl, rfl, by decide, rfl⟩⟩

theorem witness_EveryStepKeepsInv : Inv (uploading 1#32) ∧ ∃ t, step (uploading 1#32) = .next t :=
  ⟨uploading_inv (by decide), _, rfl⟩

theorem witness_InvStatesAlwaysStepOn : Inv (uploading 1#32) := uploading_inv (by decide)

theorem witness_PowerOnResetTakesTheResetValues :
    ({ running .programming .upload .wrAckData with sched := [.powerOn] } : State).sched = [.powerOn] := rfl

theorem witness_EveryStepSendsOneFrameOrNothing :
    ∃ t, step (running .uninitialized .sync .sySend) = .next t := ⟨_, rfl⟩

theorem witness_OnlyListedTransitionsChangeTheSession :
    Inv (uploading 0#32) ∧ ∃ t, step (uploading 0#32) = .next t ∧ t.session = .complete :=
  ⟨uploading_inv (by decide), _, rfl, rfl⟩

/-- A step in FAILED that neither starts over nor enters FAILED. -/
theorem witness_FailureRecordIsKept :
    let s := { idleIn .failed with failKind := some .nack, failStage := .writeAddr, failAddr := 0x08000000#32 }
    Inv s ∧ (∃ t, step s = .next t ∧ ¬ (s.session ≠ .failed ∧ t.session = .failed)) ∧ ¬ StartsOver s := by
  refine ⟨inv_of_empty rfl ⟨?_, ?_, ?_, ?_, ?_, ?_, ?_⟩, ⟨_, rfl, fun h => h.1 rfl⟩, ?_⟩
  · simp [BusyIffRunning, idleIn, State.reset]
  · simp [OperationRecorded, idleIn, State.reset, operation]
  · simp [SessionFits, idleIn, State.reset, operation]
  · simp [UploadFits, idleIn, State.reset, operation]
  · simp [ChunkFits, idleIn, State.reset, writing]
  · simp [IdentifierFits, idleIn, State.reset]
  · simp [FailureRecorded, idleIn]
  · simp [StartsOver, State.nextAction, idleIn, State.reset]

/-- A host write after an identifier was received. -/
theorem witness_ReceivedIdentifierIsImmutable :
    let s := { idleIn .synchronized with
      idValid := true, chipidLen := 256#9, sched := [.hostWrite 0x100#32 8 0x55#32] }
    Inv s ∧ s.idValid = true ∧ (∃ t, step s = .next t) ∧ ¬ StartsOver s := by
  refine ⟨inv_of_empty rfl ⟨?_, ?_, ?_, ?_, ?_, ?_, ?_⟩, rfl, ⟨_, rfl⟩, ?_⟩
  · simp [BusyIffRunning, idleIn, State.reset]
  · simp [OperationRecorded, idleIn, State.reset, operation]
  · simp [SessionFits, idleIn, State.reset, operation]
  · simp [UploadFits, idleIn, State.reset, operation]
  · simp [ChunkFits, idleIn, State.reset, writing]
  · simp [IdentifierFits, idleIn, State.reset]
  · simp [FailureRecorded, idleIn, State.reset]
  · simp [StartsOver, State.nextAction]

end Sys2Proof.Tests
end

section
/-! PROOFS. Proofs/Step.lean: what one step does with the unit its turn presents (R8, R49). -/

namespace Sys2Proof.Machine

/-- The equation of `step` for a turn that presents a decodable unit, whatever its outcome; `step_cases` reads a step
back from the next state it answered. -/
theorem step_eq_exec_of_fetch_eq_some {s : State} {f : Format} {bs : List Byte} {i : Instr}
    (hfetch : s.fetch = some (f, bs)) (hdecode : decode f bs = .ok i) : step s = exec i s.popTurn := by
  simp only [step, hfetch, hdecode]

end Sys2Proof.Machine

namespace Sys2Proof.Proofs

open Sys2Proof.Machine

/-- Settles O8: `popTurn` is by definition the state with only its first turn taken out. -/
theorem stepRunsTheDecodedInstruction : Obligations.StepRunsTheDecodedInstruction :=
  fun _ _ _ _ hfetch hdecode => step_eq_exec_of_fetch_eq_some hfetch hdecode

end Sys2Proof.Proofs
end

section
/-! PROOFS. Proofs/Units.lean: what the decoder answers for the units that turns present (R54 to R63). -/

namespace Sys2Proof

open Sys2Proof.Machine

/-! ## Every format -/

theorem decodeHostWord_format (w : Word) : (decodeHostWord w).format = .hostCmd := by
  simp only [decodeHostWord]
  split_ifs <;> rfl

theorem decodeHostWord_wf (w : Word) : (decodeHostWord w).wf = true := by
  simp only [decodeHostWord]
  split_ifs <;> rfl

/-- Only the code of NEW_SESSION names it (R56). -/
theorem op_of_decodeHostWord_newSession {w : Word} {ignored : BitVec 28} (h : decodeHostWord w = .newSession ignored) :
    w.extractLsb' 0 4 = 0x5#4 := by
  simp only [decodeHostWord] at h
  split_ifs at h
  assumption

/-- A data frame that decodes carries 1 to 256 bytes: its length byte declares one more than its value (R65). -/
theorem decodeDataFrame_cases {bs : List Byte} {i : Instr} (h : decodeDataFrame bs = .ok i) :
    ∃ p, i = .dataFrame p ∧ lengthOk p = true := by
  unfold decodeDataFrame at h
  split at h
  · cases h
  · rename_i l rest
    split_ifs at h with hlength
    cases h
    have hl := l.isLt
    simp only [dataFrameLengthOk, List.length_cons, decide_eq_true_eq] at hlength
    refine ⟨_, rfl, ?_⟩
    simp only [lengthOk, List.length_dropLast, decide_eq_true_eq]
    omega

/-- An identifier response that decodes carries 1 to 256 bytes (R66). -/
theorem decodeIdResp_cases {bs : List Byte} {i : Instr} (h : decodeIdResp bs = .ok i) :
    ∃ ident, i = .getidResponse ident ∧ lengthOk ident = true := by
  unfold decodeIdResp at h
  split at h
  · rename_i a n rest
    split_ifs at h with hack hlength
    cases h
    have hn := n.isLt
    refine ⟨_, rfl, ?_⟩
    simp only [lengthOk, List.length_dropLast, decide_eq_true_eq]
    omega
  · cases h

/-- What decodes in a format belongs to that format and is well-formed. -/
theorem format_and_wf_of_decode {f : Format} {bs : List Byte} {i : Instr} (h : decode f bs = .ok i) :
    i.format = f ∧ i.wf = true := by
  cases f <;> simp only [decode] at h
  case hostCmd =>
    unfold decodeHostCmd at h
    split at h <;> cases h
    exact ⟨decodeHostWord_format _, decodeHostWord_wf _⟩
  case resp =>
    unfold decodeResp at h
    split at h <;> cases h
    split_ifs with hack hnack
    · exact ⟨rfl, rfl⟩
    · exact ⟨rfl, rfl⟩
    · simp [Instr.format, Instr.wf, hack, hnack]
  case init =>
    unfold decodeInit at h
    split at h
    · split_ifs at h
      cases h; exact ⟨rfl, rfl⟩
    · cases h
  case cmdFrame =>
    unfold decodeCmdFrame at h
    split at h
    · split_ifs at h <;> cases h <;> exact ⟨rfl, rfl⟩
    · cases h
  case selFrame =>
    unfold decodeSelFrame at h
    split_ifs at h
    cases h; exact ⟨rfl, rfl⟩
  case addrFrame =>
    unfold decodeAddrFrame at h
    split at h
    · split_ifs at h
      cases h; exact ⟨rfl, rfl⟩
    · cases h
  case dataFrame =>
    obtain ⟨p, rfl, hp⟩ := decodeDataFrame_cases h
    exact ⟨rfl, hp⟩
  case idResp =>
    obtain ⟨ident, rfl, hident⟩ := decodeIdResp_cases h
    exact ⟨rfl, hident⟩

/-! ## The units that turns present -/

/-- A word written to `CMD` decodes to the operation it names (R55). -/
theorem decode_wordBytes (w : Word) : decode .hostCmd (wordBytes w) = .ok (decodeHostWord w) := by
  simp only [decode, wordBytes, decodeHostCmd, bytesWord_wordBytes]

theorem decode_initFrame : decode .init initFrame = .ok .init := rfl

theorem decode_commandFrame_getId : decode .cmdFrame (commandFrame 0x02#8) = .ok .cmdGetId := rfl

theorem decode_commandFrame_extendedErase : decode .cmdFrame (commandFrame 0x44#8) = .ok .cmdExtendedErase := rfl

theorem decode_commandFrame_writeMemory : decode .cmdFrame (commandFrame 0x31#8) = .ok .cmdWriteMemory := rfl

theorem decode_selectorFrame : decode .selFrame selectorFrame = .ok .massEraseSelector := rfl

theorem validateBlockFrame_addressFrame (a : Word) : validateBlockFrame (addressFrame a) = true := by
  have hfold : xorFold (addressFrame a) = 0#8 := by
    rw [addressFrame, xorFold_append]
    simp [wordBytes, xorFold, addressChecksum]
  simp [validateBlockFrame, hfold]

theorem decode_addressFrame (a : Word) : decode .addrFrame (addressFrame a) = .ok (.addressFrame a) := by
  have hvalid := validateBlockFrame_addressFrame a
  simp only [addressFrame, wordBytes, List.cons_append, List.nil_append] at hvalid ⊢
  simp only [decode, decodeAddrFrame, hvalid, if_true, bytesWord_wordBytes]

theorem decode_dataFrame {p : List Byte} (hpos : 1 ≤ p.length) (hle : p.length ≤ 256) :
    decode .dataFrame (dataFrame p) = .ok (.dataFrame p) := by
  have hlength : dataFrameLengthOk (dataFrame p) = true := by
    simp only [dataFrame, dataFrameLengthOk, List.length_cons, List.length_append, List.length_nil,
      lengthByte_toNat p hpos hle, decide_eq_true_eq]
    omega
  have hvalid : validateBlockFrame (dataFrame p) = true := by
    simp [validateBlockFrame, xorFold_dataFrame]
  simp only [dataFrame] at hlength hvalid ⊢
  simp only [decode, decodeDataFrame, hlength, hvalid, if_true, List.dropLast_concat]

theorem decode_resp_ack : decode .resp [0x79#8] = .ok .respAck := rfl

theorem decode_resp_nack : decode .resp [0x1F#8] = .ok .respNack := rfl

theorem decode_resp_other {b : Byte} (hack : b ≠ 0x79#8) (hnack : b ≠ 0x1F#8) :
    decode .resp [b] = .ok (.respOther b) := by
  simp only [decode, decodeResp, hack, hnack, if_false]

end Sys2Proof

namespace Sys2Proof.Proofs

open Sys2Proof.Machine

/-- Settles O4: the decoded instructions agree but for their ignored bits, of which no meaning makes use. -/
theorem commandIgnoresUpperBits : Obligations.CommandIgnoresUpperBits := by
  intro w w' s hop
  simp only [decodeHostWord, hop]
  split_ifs <;> rfl

end Sys2Proof.Proofs
end

section
/-! PROOFS. Proofs/Turns.lean: whose turn a step takes, what that turn presents, and the step as one equation: `exec` of
the presented unit, or `takeTurn` where none is presented (R8, R28, R49). -/

namespace Sys2Proof.Machine

/-! ## The turn that is taken -/

theorem nextAction_of_sched {s : State} {a : Action} {rest : List Action} (h : s.sched = a :: rest) :
    s.nextAction = a := by
  simp [State.nextAction, h]

theorem popTurn_of_sched {s : State} {a : Action} {rest : List Action} (h : s.sched = a :: rest) :
    s.popTurn = { s with sched := rest } := by
  simp [State.popTurn, h]

/-- A step on a turn that presents a unit. -/
theorem step_of_unit {s : State} {a : Action} {rest : List Action} {f : Format} {bs : List Byte} {i : Instr}
    (hsched : s.sched = a :: rest) (hfetch : s.fetch = some (f, bs)) (hdecode : decode f bs = .ok i) :
    step s = exec i { s with sched := rest } := by
  rw [step_eq_exec_of_fetch_eq_some hfetch hdecode, popTurn_of_sched hsched]

/-- A step on a turn that presents none. -/
theorem step_of_turn {s : State} {a : Action} {rest : List Action} (hsched : s.sched = a :: rest)
    (hfetch : s.fetch = none) : step s = takeTurn a { s with sched := rest } := by
  simp only [step, hfetch, nextAction_of_sched hsched, popTurn_of_sched hsched]

/-! ## What a turn presents -/

theorem fetch_of_linkPush {s : State} {b : Byte} (h : s.nextAction = .linkPush b) : s.fetch = none := by
  simp [State.fetch, h]

theorem fetch_of_hostRead {s : State} {addr : Word} {width : Nat} (h : s.nextAction = .hostRead addr width) :
    s.fetch = none := by
  simp [State.fetch, h]

theorem fetch_of_powerOn {s : State} (h : s.nextAction = .powerOn) : s.fetch = none := by
  simp [State.fetch, h]

theorem fetch_of_hostWrite {s : State} {addr v : Word} {width : Nat} (h : s.nextAction = .hostWrite addr width v)
    (haddr : addr ≠ 0x000#32) : s.fetch = none := by
  simp [State.fetch, h, haddr]

theorem fetch_of_frameToSend {s : State} {u : Format × List Byte} (h : s.nextAction = .engine)
    (hframe : s.frameToSend = some u) : s.fetch = some u := by
  simp [State.fetch, h, hframe]

theorem fetch_of_respToRead {s : State} (h : s.nextAction = .engine) (hframe : s.frameToSend = none) :
    s.fetch = s.respToRead := by
  simp [State.fetch, h, hframe]

/-- A step that reads sends nothing (R28). -/
theorem frameToSend_of_readsResp {s : State} (h : s.seq.readsResp = true) : s.frameToSend = none := by
  unfold State.frameToSend
  split <;> simp_all [Seq.readsResp]

theorem respToRead_cons {s : State} {b : Byte} {q : List Byte} (h : s.seq.readsResp = true) (hrxq : s.rxq = b :: q) :
    s.respToRead = some (.resp, [b]) := by
  simp [State.respToRead, h, hrxq]

theorem respToRead_nil {s : State} (hrxq : s.rxq = []) : s.respToRead = none := by
  simp [State.respToRead, hrxq]

theorem respToRead_of_not_readsResp {s : State} (h : s.seq.readsResp = false) : s.respToRead = none := by
  simp [State.respToRead, h]

/-- A `HOSTCMD` unit comes from a write to `CMD` alone (R55); the sequencer and `RXQ` present units of other formats. -/
theorem fetch_cases {s : State} {f : Format} {bs : List Byte} (h : s.fetch = some (f, bs)) :
    (∃ v, s.nextAction = .hostWrite 0x000#32 32 v ∧ f = .hostCmd ∧ bs = wordBytes v) ∨ f ≠ .hostCmd := by
  unfold State.fetch at h
  split at h
  · split_ifs at h with haddr
    obtain ⟨rfl, rfl⟩ := haddr
    cases h
    exact .inl ⟨_, ‹_›, rfl, rfl⟩
  · right
    split at h
    · rename_i hframe
      cases h
      rintro rfl
      unfold State.frameToSend at hframe
      split at hframe <;> simp at hframe
    · unfold State.respToRead at h
      split_ifs at h
      split at h <;> cases h
      simp
  · right
    unfold State.idRespToRead at h
    split at h
    · split at h <;> cases h
      simp
    · cases h
  all_goals cases h

/-! ## Engine turns -/

/-- An engine turn that presents no unit. -/
theorem step_of_engineTurn {s : State} {rest : List Action} (hsched : s.sched = .engine :: rest)
    (hframe : s.frameToSend = none) (hresp : s.respToRead = none) :
    step s = engineTurn { s with sched := rest } :=
  step_of_turn hsched ((fetch_of_respToRead (nextAction_of_sched hsched) hframe).trans hresp)

/-- An engine turn at a step that sends. -/
theorem step_of_frame {s : State} {rest : List Action} {f : Format} {bs : List Byte} {i : Instr}
    (hsched : s.sched = .engine :: rest) (hframe : s.frameToSend = some (f, bs)) (hdecode : decode f bs = .ok i) :
    step s = exec i { s with sched := rest } :=
  step_of_unit hsched (fetch_of_frameToSend (nextAction_of_sched hsched) hframe) hdecode

/-- An engine turn at a step that reads one `RESP`, with a byte waiting. -/
theorem step_of_resp {s : State} {rest : List Action} {b : Byte} {q : List Byte} {i : Instr}
    (hsched : s.sched = .engine :: rest) (hreads : s.seq.readsResp = true) (hrxq : s.rxq = b :: q)
    (hdecode : decode .resp [b] = .ok i) : step s = exec i { s with sched := rest } :=
  step_of_unit hsched
    ((fetch_of_respToRead (nextAction_of_sched hsched) (frameToSend_of_readsResp hreads)).trans
      (respToRead_cons hreads hrxq)) hdecode

theorem engineTurn_idle {s : State} (hq : s.seq = .idle) : engineTurn s = .next s := by
  simp only [engineTurn, hq]

theorem engineTurn_syClear {s : State} (hq : s.seq = .syClear) :
    engineTurn s = .next (s.clearInput.goto .sySend) := by
  simp only [engineTurn, hq]

/-- The raw reads of GET_ID (R100). -/
theorem engineTurn_rawRead {s : State} (hq : s.seq = .giLen ∨ s.seq = .giData) : engineTurn s = recvData s := by
  rcases hq with hq | hq <;> simp only [engineTurn, hq]

theorem engineTurn_of_readsResp {s : State} (hreads : s.seq.readsResp = true) : engineTurn s = .next s := by
  unfold engineTurn
  split <;> simp_all [Seq.readsResp]

/-- Everything an engine turn that presents no unit can do. -/
theorem engineTurn_cases {s t : State} (h : engineTurn s = .next t) :
    t = s ∨ (s.seq = .syClear ∧ t = s.clearInput.goto .sySend) ∨ (s.seq = .upNext ∧ upNext s = .next t) ∨
      ((s.seq = .giLen ∨ s.seq = .giData) ∧ recvData s = .next t) := by
  unfold engineTurn at h
  split at h <;> simp_all

/-- A step that reads reads one `RESP`, or is one of the two raw reads of GET_ID (R28, R100). -/
theorem pendingRead_cases {s : State} {n : Nat} {tm : Timer} (h : s.pendingRead = some (n, tm)) :
    (s.seq.readsResp = true ∧ n = 1) ∨ (s.seq = .giLen ∧ n = 1) ∨ (s.seq = .giData ∧ n = s.idn.toNat + 1) := by
  unfold State.pendingRead at h
  split at h <;> simp_all [Seq.readsResp]

theorem recvData_of_lacking {s : State} {n : Nat} {tm : Timer} (h : s.pendingRead = some (n, tm))
    (hlacking : s.rxq.length < n) : recvData s = .next s := by
  simp only [recvData, h, Nat.not_le.2 hlacking, if_false]

/-! ## The four reads of GET_ID, when each has what it expects (R63, R100) -/

theorem recvData_giAck {s : State} {q : List Byte} (hq : s.seq = .giAck) (hrxq : s.rxq = 0x79#8 :: q) :
    recvData s = .next { s with rxq := q, seq := .giLen } := by
  simp [recvData, State.pendingRead, completeRead, awaitAck, decodeResponse, State.dropRx, State.goto, hq, hrxq]

theorem recvData_giLen {s : State} {n : Byte} {q : List Byte} (hq : s.seq = .giLen) (hrxq : s.rxq = n :: q) :
    recvData s = .next { s with rxq := q, idn := n, seq := .giData } := by
  simp [recvData, State.pendingRead, completeRead, State.dropRx, hq, hrxq]

theorem recvData_giData {s : State} (hq : s.seq = .giData) (hwaiting : s.idn.toNat + 1 ≤ s.rxq.length) :
    recvData s = .next { s with
      rxq := s.rxq.drop (s.idn.toNat + 1), idtmp := s.rxq.take (s.idn.toNat + 1), seq := .giFinal } := by
  simp [recvData, State.pendingRead, completeRead, State.dropRx, hq, hwaiting]

theorem recvData_giFinal {s : State} {q : List Byte} (hq : s.seq = .giFinal) (hrxq : s.rxq = 0x79#8 :: q) :
    recvData s = .next { s with rxq := q }.storeId := by
  simp [recvData, State.pendingRead, completeRead, decodeResponse, State.dropRx, hq, hrxq]

end Sys2Proof.Machine

namespace Sys2Proof.Proofs

open Sys2Proof.Machine

/-- Settles O15: a link turn presents no unit. -/
theorem linkPushAppendsToTheQueue : Obligations.LinkPushAppendsToTheQueue :=
  fun _ _ _ hsched => step_of_turn hsched (fetch_of_linkPush (nextAction_of_sched hsched))

/-- Settles O10: each due unit is fetched as the framing unit built it, and decodes to its own instruction. -/
theorem engineTurnRunsTheDueUnit : Obligations.EngineTurnRunsTheDueUnit := by
  intro s rest hsched
  have frame := fun {f bs i} => step_of_frame (s := s) (f := f) (bs := bs) (i := i) hsched
  refine ⟨fun hq => ?_, fun hq => ?_, fun hq => ?_, fun hq => ?_, fun hq => ?_, fun hq => ?_, fun hq hpos hle => ?_,
    fun b q hreads hrxq => ⟨?_, ?_, fun hack hnack => ?_⟩⟩
  · exact frame (by simp only [State.frameToSend, hq]) decode_initFrame
  · exact frame (by simp only [State.frameToSend, hq]) decode_commandFrame_getId
  · exact frame (by simp only [State.frameToSend, hq]) decode_commandFrame_extendedErase
  · exact frame (by simp only [State.frameToSend, hq]) decode_selectorFrame
  · exact frame (by simp only [State.frameToSend, hq]) decode_commandFrame_writeMemory
  · exact frame (by simp only [State.frameToSend, hq]) (decode_addressFrame s.chunkAddr)
  · exact frame (by simp only [State.frameToSend, hq])
      (decode_dataFrame (by rwa [chunkPayload_length]) (by rwa [chunkPayload_length]))
  · rintro rfl
    exact step_of_resp hsched hreads hrxq decode_resp_ack
  · rintro rfl
    exact step_of_resp hsched hreads hrxq decode_resp_nack
  · exact step_of_resp hsched hreads hrxq (decode_resp_other hack hnack)

/-- Settles O11: at these four steps the sequencer neither sends nor reads one `RESP`. -/
theorem engineTurnsWithoutUnit : Obligations.EngineTurnsWithoutUnit := by
  intro s rest hsched
  have turn : s.frameToSend = none → s.seq.readsResp = false → step s = engineTurn { s with sched := rest } :=
    fun hframe hreads => step_of_engineTurn hsched hframe (respToRead_of_not_readsResp hreads)
  refine ⟨fun hq => ?_, fun hq => ?_, fun n q hq hrxq => ?_, fun hq hwaiting => ?_⟩ <;>
    rw [turn (by simp only [State.frameToSend, hq]) (by rw [hq]; rfl)]
  · exact engineTurn_idle hq
  · exact engineTurn_syClear hq
  · exact (engineTurn_rawRead (s := { s with sched := rest }) (.inl hq)).trans (recvData_giLen hq hrxq)
  · exact (engineTurn_rawRead (s := { s with sched := rest }) (.inr hq)).trans (recvData_giData hq hwaiting)

/-- Settles O12: a read of one `RESP` lacks bytes only when `RXQ` is empty, so no unit is presented; the raw reads of
GET_ID wait by `recvData_of_lacking`. -/
theorem engineWaitsForTheRead : Obligations.EngineWaitsForTheRead := by
  intro s rest n tm hsched hread hlacking
  rcases pendingRead_cases hread with ⟨hreads, rfl⟩ | ⟨hq, -⟩ | ⟨hq, -⟩
  · have hrxq : s.rxq = [] := List.length_eq_zero_iff.1 (by omega)
    rw [step_of_engineTurn hsched (frameToSend_of_readsResp hreads) (respToRead_nil hrxq)]
    exact engineTurn_of_readsResp hreads
  all_goals
    rw [step_of_engineTurn hsched (by simp only [State.frameToSend, hq])
      (respToRead_of_not_readsResp (by rw [hq]; rfl)), engineTurn_rawRead (by simp [hq])]
    exact recvData_of_lacking (s := { s with sched := rest }) hread hlacking

end Sys2Proof.Proofs
end

section
/-! PROOFS. Proofs/HostBus.lean: host reads and writes of the registers and of the two windows (R17 to R26, R36 to R40),
and the word `STATUS` reads as (R19). -/

namespace Sys2Proof.Machine

/-! ## Turns of the host -/

theorem step_of_hostRead {s : State} {addr : Word} {width : Nat} {rest : List Action}
    (hsched : s.sched = .hostRead addr width :: rest) :
    step s = .next (State.hostRead { s with sched := rest } addr width) :=
  step_of_turn hsched (fetch_of_hostRead (nextAction_of_sched hsched))

theorem step_of_hostWrite {s : State} {addr v : Word} {width : Nat} {rest : List Action}
    (hsched : s.sched = .hostWrite addr width v :: rest) (haddr : addr ≠ 0x000#32) :
    step s = .next (State.hostWrite { s with sched := rest } addr width v) :=
  step_of_turn hsched (fetch_of_hostWrite (nextAction_of_sched hsched) haddr)

/-! ## Registers -/

theorem regAt_offset (r : HostReg) : regAt r.offset = some r := by
  cases r <;> rfl

theorem inRegs_offset (r : HostReg) : inRegs r.offset.toNat = true := by
  cases r <;> rfl

theorem offset_ne_zero {r : HostReg} (h : r ≠ .cmd) : r.offset ≠ 0x000#32 := by
  intro hzero
  have hreg := regAt_offset r
  rw [hzero] at hreg
  exact h (Option.some.inj hreg).symm

/-- A 32-bit read of a register gives what the register reads as, and draws no byte. -/
theorem hostRead_offset (s : State) (r : HostReg) : s.hostRead r.offset 32 = { s with rdata := s.readReg r } := by
  simp [State.hostRead, State.hostReadValue, State.hostReadDraws, inRegs_offset, regAt_offset]

theorem hostWrite_offset (s : State) (hidle : s.busy = false) (r : HostReg) (v : Word) :
    s.hostWrite r.offset 32 v = s.writeReg v r := by
  simp [State.hostWrite, hidle, inRegs_offset, regAt_offset]

/-! ## The fields of a word built by concatenation -/

/-- The lowest field of a concatenation. -/
theorem extractLsb'_append_low {v w : Nat} (hi : BitVec v) (lo : BitVec w) : (hi ++ lo).extractLsb' 0 w = lo :=
  (BitVec.extractLsb'_append_eq_of_add_le (by simp)).trans BitVec.extractLsb'_eq_self

/-! ## Windows -/

theorem inChipid_iff {a : Nat} : inChipid a = true ↔ 0x100 ≤ a ∧ a < 0x200 := decide_eq_true_iff

theorem inImg_iff {a : Nat} : inImg a = true ↔ 0x10000 ≤ a ∧ a < 0x10000 + Config.imageMax := decide_eq_true_iff

theorem inRegs_iff {a : Nat} : inRegs a = true ↔ a < 0x100 := decide_eq_true_iff

theorem inChipid_of_inImg {a : Nat} (h : inImg a = true) : inChipid a = false := by
  have := inImg_iff.1 h
  exact Bool.eq_false_iff.2 fun hc => absurd (inChipid_iff.1 hc) (by omega)

theorem inRegs_of_window {a : Nat} (h : inChipid a = true ∨ inImg a = true) : inRegs a = false := by
  have : 0x100 ≤ a := by
    rcases h with h | h
    · exact (inChipid_iff.1 h).1
    · exact Nat.le_trans (by decide) (inImg_iff.1 h).1
  exact Bool.eq_false_iff.2 fun hr => absurd (inRegs_iff.1 hr) (by omega)

/-- An address of the `CHIPID` window always has a value: unlisted it reads `0x00` (R30). -/
theorem readByte_chipid_isSome (m : Memory) {a : Nat} (h : inChipid a = true) : ∃ b, readByte m a = some b := by
  induction m with
  | nil => exact ⟨0x00#8, by simp [unlisted, h]⟩
  | cons c m ih =>
    by_cases hc : c.1 = a
    · exact ⟨c.2, by simp [readByte, hc]⟩
    · simpa [readByte, hc] using ih

/-- An 8-bit read of a byte that has a value gives it. -/
theorem hostRead_of_readByte_some (s : State) {addr : Word} {b : Byte}
    (hwindow : inChipid addr.toNat = true ∨ inImg addr.toNat = true) (hread : readByte s.mem addr.toNat = some b) :
    s.hostRead addr 8 = { s with rdata := b.setWidth 32 } := by
  simp [State.hostRead, State.hostReadValue, State.hostReadDraws, inRegs_of_window hwindow, hwindow, hread]

/-- An 8-bit read of an image byte that has no value makes a free draw (R37). -/
theorem hostRead_of_readByte_none (s : State) {addr : Word} (himg : inImg addr.toNat = true)
    (hread : readByte s.mem addr.toNat = none) :
    s.hostRead addr 8 = { s with rdata := (Config.freeByte s.draws).setWidth 32, draws := s.draws + 1 } := by
  simp [State.hostRead, State.hostReadValue, State.hostReadDraws, inRegs_of_window (.inr himg), himg, hread]

/-- The `CHIPID` window is read-only (R38). -/
theorem hostWrite_chipid (s : State) {addr : Word} (width : Nat) (v : Word) (hchipid : inChipid addr.toNat = true) :
    s.hostWrite addr width v = s := by
  have himg : inImg addr.toNat = false :=
    Bool.eq_false_iff.2 fun h => by simp [inChipid_of_inImg h] at hchipid
  simp [State.hostWrite, inRegs_of_window (.inl hchipid), himg]

end Sys2Proof.Machine

namespace Sys2Proof.Proofs

open Sys2Proof.Machine

/-- Settles O19: `regAt` finds each register at its own offset, and `IMAGE_MAX` fits 32 bits. -/
theorem registerReadsReturnTheRegister : Obligations.RegisterReadsReturnTheRegister := by
  intro s r rest hsched
  refine ⟨s.readReg r, ?_, ?_⟩
  · rw [step_of_hostRead hsched, hostRead_offset]
    cases r <;> rfl
  · have hmax : (BitVec.ofNat 32 Config.imageMax).toNat = Config.imageMax :=
      (BitVec.toNat_ofNat _ _).trans (Nat.mod_eq_of_lt (Nat.lt_of_le_of_lt imageMax_le (by decide)))
    cases r <;> simp [State.readReg, hmax]

/-- Settles O20: a write at the offset of any register but `CMD` is `writeReg`. -/
theorem registerWritesStoreTheValue : Obligations.RegisterWritesStoreTheValue := by
  intro s r v rest hidle hsched
  have hstep : r ≠ .cmd → step s = .next (State.writeReg { s with sched := rest } v r) := fun hr =>
    (step_of_hostWrite hsched (offset_ne_zero hr)).trans
      (congrArg _ (hostWrite_offset { s with sched := rest } hidle r v))
  refine ⟨?_, ?_, ?_, ?_, ?_⟩
  · rintro rfl; exact hstep (by decide)
  · rintro rfl; exact hstep (by decide)
  · rintro rfl; exact hstep (by decide)
  · rintro rfl; exact hstep (by decide)
  · rintro (rfl | rfl | rfl | rfl | rfl) <;> exact hstep (by decide)

/-- Settles O21: each field is the lowest one once the fields below it are shifted out. -/
theorem statusFieldsAreWhereTheSpecPutsThem : Obligations.StatusFieldsAreWhereTheSpecPutsThem := by
  intro s
  unfold State.status
  refine ⟨?busy, ?_, ?idValid, ?_, ?_, ?_, ?_, ?top⟩
  case busy => simp only [BitVec.getLsbD_append, BitVec.getLsbD_ofBool]; simp
  case idValid => simp only [BitVec.getLsbD_append, BitVec.getLsbD_ofBool]; simp
  case top =>
    repeat rw [BitVec.extractLsb'_append_eq_of_le (by decide)]
    exact BitVec.extractLsb'_eq_self
  all_goals
    repeat rw [BitVec.extractLsb'_append_eq_of_le (by decide)]
    exact extractLsb'_append_low _ _

/-- Settles O23: the byte has no value in memory, so the read makes a draw. -/
theorem unwrittenImageByteReadsAsAFreeDraw : Obligations.UnwrittenImageByteReadsAsAFreeDraw := by
  intro s addr rest hlow hhigh hread hsched
  rw [step_of_hostRead hsched, hostRead_of_readByte_none { s with sched := rest } (inImg_iff.2 ⟨hlow, hhigh⟩) hread]

/-- Settles O24: every `CHIPID` byte has a value, and `ChipidTailZero` says which at or beyond `CHIPID_LEN`. -/
theorem chipidWindowReadsTheIdentifier : Obligations.ChipidWindowReadsTheIdentifier := by
  intro s i rest hinv hi
  obtain ⟨-, -, -, -, -, -, htail, -, -⟩ := hinv
  have haddr : (BitVec.ofNat 32 (0x100 + i)).toNat = chipidBase + i :=
    (BitVec.toNat_ofNat _ _).trans (Nat.mod_eq_of_lt (by omega))
  have hchipid : inChipid (BitVec.ofNat 32 (0x100 + i)).toNat = true :=
    inChipid_iff.2 (by rw [haddr]; unfold chipidBase; omega)
  refine ⟨fun hsched => ?_, fun width v hsched => ?_⟩
  · obtain ⟨b, hb⟩ := readByte_chipid_isSome s.mem hchipid
    refine ⟨b, haddr ▸ hb, ?_, fun hle => ?_⟩
    · rw [step_of_hostRead hsched, hostRead_of_readByte_some { s with sched := rest } (.inl hchipid) hb]
    · have hzero := htail i hle hi
      rw [← haddr, hb] at hzero
      exact Option.some.inj hzero
  · have hne : BitVec.ofNat 32 (0x100 + i) ≠ 0x000#32 := fun h => by
      rw [h] at hchipid; exact absurd hchipid (by decide)
    rw [step_of_hostWrite hsched hne, hostWrite_chipid _ _ _ hchipid]

end Sys2Proof.Proofs
end

section
/-! PROOFS. Proofs/Exec.lean: what the wire units do when they are due and when they are not: the frames sent, the
response bytes read, the identifier stored (R28, R58 to R63, R85, R86, R100, R113). -/

namespace Sys2Proof.Machine

/-! ## Frames -/

theorem exec_init_due {s : State} (hq : s.seq = .sySend) : exec .init s = .next ((s.send initFrame).goto .syWait) :=
  if_pos hq

theorem exec_cmdGetId_due {s : State} (hq : s.seq = .giSend) :
    exec .cmdGetId s = .next ((s.send (commandFrame 0x02#8)).goto .giAck) :=
  if_pos hq

theorem exec_cmdExtendedErase_due {s : State} (hq : s.seq = .erSendCmd) :
    exec .cmdExtendedErase s = .next (((s.emit .eraseStarted).send (commandFrame 0x44#8)).goto .erAckCmd) :=
  if_pos hq

theorem exec_massEraseSelector_due {s : State} (hq : s.seq = .erSendSel) :
    exec .massEraseSelector s = .next ((s.send selectorFrame).goto .erAckSel) :=
  if_pos hq

theorem exec_cmdWriteMemory_due {s : State} (hq : s.seq = .wrSendCmd) :
    exec .cmdWriteMemory s = .next ((s.send (commandFrame 0x31#8)).goto .wrAckCmd) :=
  if_pos hq

/-! ## Response bytes -/

theorem takeResp_due {s : State} {b : Byte} {q : List Byte} (hreads : s.seq.readsResp = true) (hrxq : s.rxq = b :: q) :
    takeResp b s = completeRead [b] { s with rxq := q } := by
  simp [takeResp, hreads, hrxq, State.dropRx]

theorem takeResp_notDue {s : State} {b : Byte} (h : s.seq.readsResp = false ∨ s.rxq.head? ≠ some b) :
    takeResp b s = .next s := by
  refine if_neg fun hdue => ?_
  rcases h with h | h
  · simp [h] at hdue
  · exact h hdue.2

theorem completeRead_giFinal_ack (s : State) (hq : s.seq = .giFinal) :
    completeRead [0x79#8] s = .next s.storeId := by
  simp [completeRead, hq, decodeResponse]

theorem completeRead_wrAckData_ack (s : State) (hq : s.seq = .wrAckData) :
    completeRead [0x79#8] s = chunkDone s := by
  simp [completeRead, hq, awaitAck, decodeResponse]

theorem toNat_setWidth_chunkLen (n : BitVec 9) : (n.setWidth 32).toNat = n.toNat :=
  BitVec.toNat_setWidth_of_le (by decide)

/-! ## The stored identifier -/

theorem toNat_identifierLength (n : Byte) : (BitVec.ofNat 9 (n.toNat + 1)).toNat = n.toNat + 1 := by
  have := n.isLt
  rw [BitVec.toNat_ofNat]
  omega

/-- `storeId` of an `IDTMP` of `n + 1` bytes writes exactly those bytes. -/
theorem readByte_storeId_inside {s : State} {j : Nat} (hlength : s.idtmp.length = s.idn.toNat + 1)
    (hj : j ≤ s.idn.toNat) : readByte s.storeId.mem (chipidBase + j) = s.idtmp[j]? := by
  rw [State.storeId_mem, List.take_of_length_le (by omega), readByte_writeBytes_inside _ _ _ _ (by omega)]

theorem readByte_storeId_outside {s : State} {a : Nat} (h : a < chipidBase ∨ chipidBase + s.idn.toNat < a) :
    readByte s.storeId.mem a = readByte s.mem a := by
  rw [State.storeId_mem, readByte_writeBytes_outside]
  rw [List.length_take]
  omega

/-- `storeId` writes the `CHIPID` window alone. -/
theorem readByte_storeId_of_not_inChipid {s : State} {a : Nat} (h : inChipid a = false) :
    readByte s.storeId.mem a = readByte s.mem a := by
  refine readByte_storeId_outside ?_
  have hn := s.idn.isLt
  have hout : ¬ (0x100 ≤ a ∧ a < 0x200) := fun hin => by simp [inChipid_iff.2 hin] at h
  unfold chipidBase
  omega

/-! ## The composite turn of GET_ID -/

/-- The one-turn reading of an identifier response is the four reads, and each has what it expects. -/
theorem exec_getidResponse_due {s : State} {ident q : List Byte} (hq : s.seq = .giAck) (hpos : 1 ≤ ident.length)
    (hle : ident.length ≤ 256) (hrxq : s.rxq = idResponse ident ++ q) :
    exec (.getidResponse ident) s =
      .next { s with rxq := q, idn := lengthByte ident, idtmp := ident, seq := .giFinal }.storeId := by
  have hlength : (lengthByte ident).toNat + 1 = ident.length := by rw [lengthByte_toNat ident hpos hle]; omega
  have hprefix : (idResponse ident).isPrefixOf s.rxq = true := by simp [hrxq]
  have hunit : s.rxq = 0x79#8 :: lengthByte ident :: (ident ++ 0x79#8 :: q) := by simp [hrxq, idResponse]
  have hack := recvData_giAck hq hunit
  have hlen := recvData_giLen (s := { s with rxq := lengthByte ident :: (ident ++ 0x79#8 :: q), seq := .giLen }) rfl rfl
  have hdata := recvData_giData
    (s := { s with rxq := ident ++ 0x79#8 :: q, idn := lengthByte ident, seq := .giData }) rfl (by simp [hlength])
  have hfinal := recvData_giFinal
    (s := { s with rxq := 0x79#8 :: q, idn := lengthByte ident, idtmp := ident, seq := .giFinal }) rfl rfl
  simp only [hlength, List.take_left, List.drop_left] at hdata
  simp only [exec, execGetidResponse, hq, hprefix, and_self, if_true, hack, andThen, hlen, hdata, hfinal]

end Sys2Proof.Machine

namespace Sys2Proof.Proofs

open Sys2Proof.Machine

/-- Settles O30: each frame's bytes are those of its builder. -/
theorem constantFrameIsSentAtItsStep : Obligations.ConstantFrameIsSentAtItsStep :=
  fun _ => ⟨exec_init_due, exec_cmdGetId_due, exec_cmdExtendedErase_due, exec_massEraseSelector_due,
    exec_cmdWriteMemory_due⟩

/-- Settles O33: every frame and read unit is guarded by its own step and operand. -/
theorem unitNotDueDoesNothing : Obligations.UnitNotDueDoesNothing := by
  intro s
  refine ⟨fun h => if_neg h, fun h => if_neg h, fun h => if_neg h, fun h => if_neg h, fun h => if_neg h,
    fun a h => ?_, fun p h => ?_, takeResp_notDue, takeResp_notDue, fun b => takeResp_notDue, fun ident h => ?_⟩
  · exact if_neg (not_and_or.2 h)
  · exact if_neg (not_and_or.2 h)
  · exact if_neg fun ⟨hq, hprefix⟩ => h.elim (· hq) (· (List.isPrefixOf_iff_prefix.1 hprefix))

/-- Settles O36: below `2^32` the 32-bit sum is the exact one. -/
theorem ackAtTheDataStageAccountsTheChunk : Obligations.AckAtTheDataStageAccountsTheChunk := by
  intro s q hq hrxq hsum
  refine ⟨s.bytesWritten + s.chunkLen.setWidth 32, ?_, ?_⟩
  · rw [BitVec.toNat_add, toNat_setWidth_chunkLen, Nat.mod_eq_of_lt hsum]
  · calc exec .respAck s = completeRead [0x79#8] { s with rxq := q } := takeResp_due (by rw [hq]; rfl) hrxq
      _ = chunkDone { s with rxq := q } := completeRead_wrAckData_ack _ hq
      _ = _ := by simp only [chunkDone, Nat.not_le.2 hsum, if_false]

/-- Settles O37: the ACK is taken and `storeId` runs. -/
theorem finalAckStoresTheIdentifier : Obligations.FinalAckStoresTheIdentifier := by
  intro s q hq hrxq hlength
  refine ⟨s.storeId.mem, _, toNat_identifierLength s.idn, ?_, fun j => readByte_storeId_inside hlength,
    fun a => readByte_storeId_outside⟩
  exact (takeResp_due (by rw [hq]; rfl) hrxq).trans (completeRead_giFinal_ack { s with rxq := q } hq)

/-- Settles O41: the composite turn ends in `storeId` with the whole identifier in `IDTMP`. -/
theorem getidResponseStoresTheIdentifier : Obligations.GetidResponseStoresTheIdentifier := by
  intro s ident q hq hpos hle hrxq
  have hlength : ident.length = (lengthByte ident).toNat + 1 := by rw [lengthByte_toNat ident hpos hle]; omega
  have hexec := exec_getidResponse_due (q := q) hq hpos hle (by simp [hrxq, idResponse, lengthByte])
  refine ⟨_, _, (toNat_identifierLength _).trans hlength.symm, hexec, fun j hj => ?_, fun a ha => ?_⟩
  · exact readByte_storeId_inside hlength (show j ≤ (lengthByte ident).toNat by omega)
  · exact readByte_storeId_outside (show _ ∨ _ + (lengthByte ident).toNat < a by omega)

end Sys2Proof.Proofs
end

section
/-! PROOFS. Proofs/Moves.lean: every next state of a step is one of a few moves of the host or of the engine, or starts
the session over. The invariants and the history claims are proved per move. -/

namespace Sys2Proof.Machine

open Sys2Proof.Safety

/-- The engine goes from `q` to `q'` inside one operation, and for UPLOAD inside one WRITE MEMORY sequence (R28,
R105). -/
abbrev Continues (q q' : Seq) : Prop :=
  operation q ≠ none ∧ operation q' = operation q ∧ writing q' = writing q

/-- The moves of the host and of the link that start no session over (R8, R37, R40, R46, R51, R118, R119). -/
inductive HostMove (s : State) : State → Prop
  | stay : HostMove s s
  | setBase (hidle : s.busy = false) (v : Word) : HostMove s { s with base := v }
  | setLen (hidle : s.busy = false) (v : Word) : HostMove s { s with len := v }
  | setTack (hidle : s.busy = false) (v : Word) : HostMove s { s with tack := v }
  | setTerase (hidle : s.busy = false) (v : Word) : HostMove s { s with terase := v }
  | setImage (hidle : s.busy = false) {a : Nat} (himg : inImg a = true) (b : Byte) :
    HostMove s { s with mem := writeByte s.mem a b }
  | read (v : Word) (draws : Nat) : HostMove s { s with rdata := v, draws := draws }
  | push (b : Byte) : HostMove s { s with rxq := s.rxq ++ [b] }
  | refuse (hidle : s.busy = false) (c : ResultCode) : HostMove s (s.refuse c)
  | accept (hidle : s.busy = false) {op : HostOp} (hop : op ≠ .newSession) (hlegal : s.refusal op = none) :
    HostMove s (s.accept op)

/-- The moves of the engine (R28). -/
inductive EngineMove (s : State) : State → Prop
  | stay : EngineMove s s
  /-- A frame is sent, or bytes are taken, and the operation goes on. -/
  | advance {q : Seq} (rxq : List Byte) {frame : List Byte} (events : List Event) (draws : Nat) (idn : Byte)
      (idtmp : List Byte) (hcontinues : Continues s.seq q) (hframe : frame = [] ∨ IsSentFrame frame)
      (hidtmp : q = .giFinal → idtmp.length = idn.toNat + 1) :
    EngineMove s { s with
      seq := q, rxq := rxq, txlog := s.txlog ++ frame, evlog := s.evlog ++ events, draws := draws, idn := idn,
      idtmp := idtmp }
  /-- A read fails its stage (R129). -/
  | fail (rxq : List Byte) {g : Stage} (k : ErrorKind) (hstage : stageOf s.seq = some g) :
    EngineMove s (State.fail { s with rxq := rxq } g k)
  /-- SYNC is acknowledged (R93). -/
  | endSync (rxq : List Byte) (hq : s.seq = .syWait) (hack : s.rxq.head? = some 0x79#8) :
    EngineMove s (((State.setSession { s with rxq := rxq } .synchronized).emit .synchronized).finish .ok)
  /-- ERASE_ALL is acknowledged (R104). -/
  | endErase (rxq : List Byte) (hq : s.seq = .erAckSel) (hack : s.rxq.head? = some 0x79#8) :
    EngineMove s (((State.setSession { s with rxq := rxq } .erased).emit .eraseComplete).finish .ok)
  /-- GET_ID is acknowledged (R100), in the read of its final stage or in the composite turn. -/
  | endGetId (rxq : List Byte) (idn : Byte) (idtmp : List Byte) (hop : operation s.seq = some .getId) :
    EngineMove s (State.storeId { s with rxq := rxq, idn := idn, idtmp := idtmp })
  /-- A chunk is acknowledged (R113). -/
  | endChunk (rxq : List Byte) (hq : s.seq = .wrAckData) (hsum : s.bytesWritten.toNat + s.chunkLen.toNat < 2 ^ 32) :
    EngineMove s { s with
      rxq := rxq, bytesWritten := s.bytesWritten + s.chunkLen.setWidth 32
      evlog := s.evlog ++ [.chunkWritten s.chunkAddr s.chunkLen (s.bytesWritten + s.chunkLen.setWidth 32) s.len]
      seq := .upNext }
  /-- The upload is complete (R112). -/
  | endUpload (hq : s.seq = .upNext) (hall : s.bytesWritten = s.len) :
    EngineMove s (((s.setSession .complete).emit (.uploadComplete s.len)).finish .ok)
  /-- The next chunk of the upload (R112). -/
  | nextChunk (hq : s.seq = .upNext) (hmore : s.bytesWritten.toNat < s.len.toNat)
      (hsum : s.base.toNat + s.bytesWritten.toNat < 2 ^ 32) :
    EngineMove s { s with
      chunkLen := BitVec.ofNat 9 (min 256 (s.len.toNat - s.bytesWritten.toNat))
      chunkAddr := s.base + s.bytesWritten
      session := if s.session = .erased then .programming else s.session
      seq := .wrSendCmd }

/-! ## Reads -/

theorem stageOf_of_readsResp {q : Seq} (h : q.readsResp = true) : stageOf q ≠ none := by
  cases q <;> simp_all [Seq.readsResp, stageOf]

theorem stageOf_of_pendingRead {s : State} {n : Nat} {tm : Timer} (h : s.pendingRead = some (n, tm)) :
    stageOf s.seq ≠ none := by
  rcases pendingRead_cases h with ⟨hreads, -⟩ | ⟨hq, -⟩ | ⟨hq, -⟩
  · exact stageOf_of_readsResp hreads
  all_goals simp [hq, stageOf]

/-- Moving on without sending. -/
theorem EngineMove.goto {s : State} {q q' : Seq} (rxq : List Byte) (hq : s.seq = q) (hcontinues : Continues q q')
    (hfinal : q' ≠ .giFinal) : EngineMove s (State.goto { s with rxq := rxq } q') := by
  simpa [State.goto] using
    EngineMove.advance (q := q') rxq [] s.draws s.idn s.idtmp (hq ▸ hcontinues) (.inl rfl) (absurd · hfinal)

/-- The end of a read is a move of the engine, where the bytes `r` it yields are the ones at the front of `RXQ` and no
more than the identifier's at `GI_DATA`. -/
theorem engineMove_of_completeRead {r rxq : List Byte} {s t : State}
    (h : completeRead r { s with rxq := rxq } = .next t) (hreads : stageOf s.seq ≠ none)
    (hfront : r.head? = some 0x79#8 → s.rxq.head? = some 0x79#8)
    (hlength : s.seq = .giData → r.length ≤ s.idn.toNat + 1) : EngineMove s t := by
  rcases completeRead_cases h with ⟨g, k, hg, rfl⟩ | ⟨hq, hack, rfl⟩ | ⟨hq, -, rfl⟩ | ⟨hq, n, q, -, rfl⟩ |
    ⟨hq, hn, rfl⟩ | ⟨hq, -, rfl⟩ | ⟨hq, -, rfl⟩ | ⟨hq, hack, rfl⟩ | ⟨hq, -, rfl⟩ | ⟨hq, -, rfl⟩ | ⟨hq, -, hdone⟩ |
    ⟨hnone, -⟩
  · exact .fail rxq k hg
  · exact .endSync rxq hq (hfront hack)
  · exact .goto rxq hq (by decide) (by decide)
  · simpa using EngineMove.advance (q := .giData) rxq [] s.draws n s.idtmp
      ((show s.seq = _ from hq) ▸ by decide) (.inl rfl) (by simp)
  · simpa using EngineMove.advance (q := .giFinal) rxq [] s.draws s.idn r
      ((show s.seq = _ from hq) ▸ by decide) (.inl rfl) (fun _ => Nat.le_antisymm (hlength hq) hn)
  · exact .endGetId rxq s.idn s.idtmp (by rw [show s.seq = _ from hq]; rfl)
  · exact .goto rxq hq (by decide) (by decide)
  · exact .endErase rxq hq (hfront hack)
  · exact .goto rxq hq (by decide) (by decide)
  · exact .goto rxq hq (by decide) (by decide)
  · obtain ⟨hsum, rfl⟩ := chunkDone_cases hdone
    exact .endChunk rxq hq hsum
  · exact absurd hnone hreads

theorem engineMove_of_recvData {s t : State} (h : recvData s = .next t) : EngineMove s t := by
  rcases recvData_cases h with rfl | ⟨n, tm, hread, -, h⟩
  · exact .stay
  · refine engineMove_of_completeRead h (stageOf_of_pendingRead hread) ?_ fun hq => ?_
    · rw [List.head?_take]
      split <;> simp
    · have hn : n = s.idn.toNat + 1 := by simp_all [State.pendingRead]
      rw [List.length_take, hn]
      exact Nat.min_le_left _ _

theorem engineMove_of_recvTimeout {s t : State} (h : recvTimeout s = .next t) : EngineMove s t := by
  rcases recvTimeout_cases h with rfl | ⟨n, tm, hread, hlacking, h⟩
  · exact .stay
  · refine engineMove_of_completeRead h (stageOf_of_pendingRead hread) id fun hq => ?_
    have hn : n = s.idn.toNat + 1 := by simp_all [State.pendingRead]
    omega

theorem engineMove_of_engineTurn {s t : State} (h : engineTurn s = .next t) : EngineMove s t := by
  rcases engineTurn_cases h with rfl | ⟨hq, rfl⟩ | ⟨hq, h⟩ | ⟨-, h⟩
  · exact .stay
  · exact .goto [] hq (by decide) (by decide)
  · rcases upNext_cases h with ⟨hall, rfl⟩ | ⟨hmore, hsum, rfl⟩
    · exact .endUpload hq hall
    · exact .nextChunk hq hmore hsum
  · exact engineMove_of_recvData h

/-! ## Instructions -/

/-- Sending a frame and going on with the operation. -/
theorem EngineMove.send {s : State} {q : Seq} {f : List Byte} (q' : Seq) (draws : Nat) (hq : s.seq = q)
    (hcontinues : Continues q q') (hfinal : q' ≠ .giFinal) (hsent : IsSentFrame f) :
    EngineMove s { (s.send f).goto q' with draws := draws } := by
  simpa [State.send, State.goto] using
    EngineMove.advance (q := q') s.rxq [] draws s.idn s.idtmp (hq ▸ hcontinues) (.inr hsent) (absurd · hfinal)

/-- Every next state of an instruction. -/
theorem move_of_exec {i : Instr} {s t : State} (h : exec i s = .next t) (hwf : i.wf = true) :
    ((∃ w, i = .newSession w) ∧ s.busy = false ∧ t = s.newSession) ∨ HostMove s t ∨ EngineMove s t := by
  rcases exec_cases h with rfl | ⟨-, hidle, c, rfl⟩ | ⟨-, hidle, op, hop, hlegal, rfl⟩ | hnew | ⟨rfl, hq, rfl⟩ |
    ⟨rfl, hq, rfl⟩ | ⟨rfl, hq, rfl⟩ | ⟨rfl, hq, rfl⟩ | ⟨rfl, hq, rfl⟩ | ⟨rfl, hq, rfl⟩ | ⟨rfl, hq, rfl⟩ |
    ⟨b, -, hreads, hhead, h⟩ | ⟨ident, rfl, hq, ⟨q, hrxq⟩, -⟩
  · exact .inr (.inl .stay)
  · exact .inr (.inl (.refuse hidle c))
  · exact .inr (.inl (.accept hidle hop hlegal))
  · exact .inl hnew
  all_goals refine .inr (.inr ?_)
  · exact .send .syWait s.draws hq (by decide) (by decide) ⟨.init, hwf, rfl, by decide⟩
  · exact .send .giAck s.draws hq (by decide) (by decide) ⟨.cmdGetId, hwf, rfl, by decide⟩
  · exact .advance s.rxq [.eraseStarted] s.draws s.idn s.idtmp (hq ▸ by decide)
      (.inr ⟨.cmdExtendedErase, hwf, rfl, by decide⟩) (absurd · (by decide))
  · exact .send .wrAckCmd s.draws hq (by decide) (by decide) ⟨.cmdWriteMemory, hwf, rfl, by decide⟩
  · exact .send .erAckSel s.draws hq (by decide) (by decide) ⟨.massEraseSelector, hwf, rfl, by decide⟩
  · exact .send .wrAckAddr s.draws hq (by decide) (by decide)
      ⟨.addressFrame s.chunkAddr, hwf, rfl, by simp [Instr.format]⟩
  · exact .send .wrAckData s.chunkDraws hq (by decide) (by decide)
      ⟨.dataFrame s.chunkPayload, hwf, rfl, by simp [Instr.format]⟩
  · refine engineMove_of_completeRead h (stageOf_of_readsResp hreads) ?_ fun _ => ?_
    · simp [hhead]
    · simp
  · obtain ⟨hpos, hle⟩ : 1 ≤ ident.length ∧ ident.length ≤ 256 := by simpa [Instr.wf, lengthOk] using hwf
    rw [exec_getidResponse_due hq hpos hle hrxq.symm] at h
    cases h
    exact .endGetId q (lengthByte ident) ident (by rw [hq]; rfl)

/-! ## Steps -/

/-- Every next state of a turn that presents no unit. -/
theorem move_of_takeTurn {a : Action} {s t : State} (h : takeTurn a s = .next t) :
    (a = .powerOn ∧ t = s.powerOn) ∨ HostMove s t ∨ EngineMove s t := by
  cases a <;> simp only [takeTurn, Host.Outcome.next.injEq] at h
  case hostWrite addr width v =>
    subst h
    right; left
    rcases hostWrite_cases s addr width v with he | ⟨hidle, he | he | he | he | ⟨himg, he⟩⟩ <;> rw [he]
    · exact .stay
    · exact .setBase hidle v
    · exact .setLen hidle v
    · exact .setTack hidle v
    · exact .setTerase hidle v
    · exact .setImage hidle himg _
  case hostRead addr width => exact .inr (.inl (h ▸ .read _ _))
  case linkPush b => exact .inr (.inl (h ▸ .push b))
  case engine => exact .inr (.inr (engineMove_of_engineTurn h))
  case idResponse => exact .inr (.inl (h ▸ .stay))
  case timeout => exact .inr (.inr (engineMove_of_recvTimeout h))
  case powerOn => exact .inl ⟨rfl, h.symm⟩

/-- Every next state of a step: the session is started over, or the turn is a move of the host or of the engine. -/
theorem move_of_step {s t : State} (h : step s = .next t) :
    (StartsOver s ∧ (t = s.popTurn.powerOn ∨ (s.busy = false ∧ t = s.popTurn.newSession))) ∨
      HostMove s.popTurn t ∨ EngineMove s.popTurn t := by
  rcases step_cases h with ⟨-, h⟩ | ⟨f, bs, i, hfetch, hdecode, h⟩
  · rcases move_of_takeTurn h with ⟨ha, ht⟩ | hmove
    · exact .inl ⟨.inl ha, .inl ht⟩
    · exact .inr hmove
  · obtain ⟨hformat, hwf⟩ := format_and_wf_of_decode hdecode
    rcases move_of_exec h hwf with ⟨⟨w, rfl⟩, hidle, ht⟩ | hmove
    · rcases fetch_cases hfetch with ⟨v, hturn, rfl, rfl⟩ | hne
      · rw [decode_wordBytes] at hdecode
        have hop := op_of_decodeHostWord_newSession (Except.ok.inj hdecode)
        exact .inl ⟨.inr ⟨v, hturn, hop, hidle⟩, .inr ⟨hidle, ht⟩⟩
      · exact absurd hformat.symm hne
    · exact .inr hmove

end Sys2Proof.Machine
end

section
/-! PROOFS. Proofs/Invariant.lean: `Inv` holds after reset and every move keeps it; what `Inv` says of a running
operation, and how power-on reset leaves the state (R19, R27, R28, R34, R87, R138). -/

namespace Sys2Proof.Machine

open Sys2Proof.Safety

/-! ## The parts of `Inv` that do not speak of the sequencer -/

/-- The identifier registers, the identifier buffer and memory (R24, R30, R35, R38). -/
def StoredFits (s : State) : Prop :=
  (s.idValid = false → s.chipidLen = 0#9) ∧
  (s.idValid = true → 1 ≤ s.chipidLen.toNat ∧ s.chipidLen.toNat ≤ 256) ∧
  ChipidTailZero s ∧ MemoryFits s

theorem storedFits_of_inv {s : State} (h : Inv s) : StoredFits s := by
  obtain ⟨-, -, -, -, -, ⟨hinvalid, hvalid, -⟩, htail, -, hmem⟩ := h
  exact ⟨hinvalid, hvalid, htail, hmem⟩

theorem failureRecorded_of_inv {s : State} (h : Inv s) : FailureRecorded s := by
  obtain ⟨-, -, -, -, -, -, -, hfailure, -⟩ := h
  exact hfailure

/-- `Inv` of a state in which no operation runs: the parts about a running operation hold trivially. -/
theorem inv_of_idle {s : State} (hbusy : s.busy = false) (hseq : s.seq = .idle) (hsession : s.session ≠ .programming)
    (hstored : StoredFits s) (hfailure : FailureRecorded s) : Inv s := by
  obtain ⟨hinvalid, hvalid, htail, hmem⟩ := hstored
  refine ⟨?_, ?_, ?_, ?_, ?_, ⟨hinvalid, hvalid, ?_⟩, htail, hfailure, hmem⟩
  · simp [BusyIffRunning, hbusy, hseq]
  · simp [OperationRecorded, hseq, operation]
  · simpa [SessionFits, hseq, operation] using hsession
  · simp [UploadFits, hseq, operation]
  · simp [ChunkFits, hseq, writing]
  · simp [hseq]

/-- `Inv` of a state in which `op` runs. -/
theorem inv_of_running {s : State} {op : HostOp} (hop : operation s.seq = some op) (hbusy : s.busy = true)
    (hcode : s.op = op.code) (hresult : s.result = .none) (hsession : SessionFits s) (hupload : UploadFits s)
    (hchunk : ChunkFits s) (hidtmp : s.seq = .giFinal → s.idtmp.length = s.idn.toNat + 1) (hstored : StoredFits s)
    (hfailure : FailureRecorded s) : Inv s := by
  obtain ⟨hinvalid, hvalid, htail, hmem⟩ := hstored
  refine ⟨?_, ?_, hsession, hupload, hchunk, ⟨hinvalid, hvalid, hidtmp⟩, htail, hfailure, hmem⟩
  · have hrunning : s.seq ≠ .idle := fun h => by simp [h, operation] at hop
    simp [BusyIffRunning, hbusy, hrunning]
  · intro op' hop'
    obtain rfl : op = op' := Option.some.inj (hop.symm.trans hop')
    exact ⟨hcode, hresult⟩

/-! ## What `Inv` says -/

theorem seq_idle_of_inv {s : State} (h : Inv s) (hidle : s.busy = false) : s.seq = .idle := by
  obtain ⟨hbusy, -⟩ := h
  by_contra hrunning
  simp [hbusy.2 hrunning] at hidle

theorem session_ne_programming_of_inv {s : State} (h : Inv s) (hidle : s.busy = false) : s.session ≠ .programming := by
  have hseq := seq_idle_of_inv h hidle
  obtain ⟨-, -, hsession, -⟩ := h
  simpa [SessionFits, hseq, operation] using hsession

theorem operationRecorded_of_inv {s : State} {op : HostOp} (h : Inv s) (hop : operation s.seq = some op) :
    s.busy = true ∧ s.op = op.code ∧ s.result = .none := by
  obtain ⟨hbusy, hrecorded, -⟩ := h
  exact ⟨hbusy.2 fun hidle => by simp [hidle, operation] at hop, hrecorded op hop⟩

theorem session_of_sync {s : State} (h : Inv s) (hop : operation s.seq = some .sync) : s.session = .uninitialized := by
  obtain ⟨-, -, hsession, -⟩ := h
  simpa [SessionFits, hop] using hsession

theorem session_of_getId {s : State} (h : Inv s) (hop : operation s.seq = some .getId) :
    s.session = .synchronized ∧ s.idValid = false := by
  obtain ⟨-, -, hsession, -⟩ := h
  simpa [SessionFits, hop] using hsession

theorem session_of_eraseAll {s : State} (h : Inv s) (hop : operation s.seq = some .eraseAll) :
    s.session = .synchronized := by
  obtain ⟨-, -, hsession, -⟩ := h
  simpa [SessionFits, hop] using hsession

theorem session_of_upload {s : State} (h : Inv s) (hop : operation s.seq = some .upload) :
    s.session = .programming ∨ s.session = .erased := by
  obtain ⟨-, -, hsession, -⟩ := h
  simp only [SessionFits, hop] at hsession
  split at hsession
  · exact .inl hsession
  · exact hsession.imp_right And.left

theorem session_of_upNext {s : State} (h : Inv s) (hq : s.seq = .upNext) :
    s.session = .programming ∨ (s.session = .erased ∧ s.bytesWritten = 0#32) := by
  obtain ⟨-, -, hsession, -⟩ := h
  simpa [SessionFits, hq, operation, writing] using hsession

theorem session_of_writing {s : State} (h : Inv s) (hq : writing s.seq = true) : s.session = .programming := by
  have hop : operation s.seq = some .upload := by
    cases hs : s.seq <;> simp_all [writing, operation]
  obtain ⟨-, -, hsession, -⟩ := h
  simpa [SessionFits, hop, hq] using hsession

/-- No operation runs in a terminal session (R27, R119). -/
theorem not_terminal_of_inv {s : State} (h : Inv s) (hrunning : operation s.seq ≠ none) :
    s.session.terminal = false := by
  obtain ⟨op, hop⟩ := Option.ne_none_iff_exists'.1 hrunning
  cases op with
  | sync => rw [session_of_sync h hop]; rfl
  | getId =>
    obtain ⟨hsession, -⟩ := session_of_getId h hop
    rw [hsession]; rfl
  | eraseAll => rw [session_of_eraseAll h hop]; rfl
  | upload => rcases session_of_upload h hop with hsession | hsession <;> rw [hsession] <;> rfl
  | newSession =>
    obtain ⟨-, -, hsession, -⟩ := h
    simp [SessionFits, hop] at hsession

theorem not_failed_of_not_terminal {v : Session} (h : v.terminal = false) : v ≠ .failed := by
  rintro rfl
  cases h

/-! ## The failure record -/

/-- Between sessions that are not FAILED the record stays clear. -/
theorem failureRecorded_of_eq {s t : State} (h : FailureRecorded s) (hs : s.session ≠ .failed)
    (ht : t.session ≠ .failed) (hkind : t.failKind = s.failKind) (hstage : t.failStage = s.failStage)
    (haddr : t.failAddr = s.failAddr) : FailureRecorded t := by
  obtain ⟨hstageIff, hkindIff, hclear⟩ := h
  simp only [FailureRecorded, hkind, hstage, haddr, ht, hstageIff.not.1 hs, hkindIff.not.1 hs, hclear hs, implies_true,
    and_self]

theorem failureRecorded_fail (s : State) {g : Stage} (k : ErrorKind) (hg : g ≠ .none) :
    FailureRecorded (s.fail g k) := by
  simp [FailureRecorded, hg]

theorem failureRecorded_of_clear {s : State} (hsession : s.session ≠ .failed) (hkind : s.failKind = none)
    (hstage : s.failStage = .none) (haddr : s.failAddr = 0#32) : FailureRecorded s := by
  simp [FailureRecorded, hsession, hkind, hstage, haddr]

/-! ## The identifier and memory -/

theorem inChipid_chipidBase_add {i : Nat} (hi : i < 256) : inChipid (chipidBase + i) = true :=
  inChipid_iff.2 (by unfold chipidBase; omega)

theorem inChipid_imgBase_add (i : Nat) : inChipid (imgBase + i) = false :=
  decide_eq_false (by unfold imgBase; omega)

/-- With the identifier buffer cleared nothing is stored (R121, R138). -/
theorem storedFits_of_clear {s t : State} (h : MemoryFits s) (hid : t.idValid = false) (hlen : t.chipidLen = 0#9)
    (hmem : t.mem = clearChipid s.mem) : StoredFits t := by
  obtain ⟨hwf, hcells⟩ := h
  refine ⟨fun _ => hlen, by simp [hid], fun i _ hi => ?_, ?_⟩
  · rw [hmem]
    exact readByte_clearChipid_chipid _ (inChipid_chipidBase_add hi)
  · unfold MemoryFits
    rw [hmem]
    exact ⟨wf_clearChipid _ hwf, fun c hc => hcells c (List.mem_of_mem_filter hc)⟩

/-- The host's image writes touch no byte of `CHIPID`. -/
theorem storedFits_writeByte {s : State} (h : StoredFits s) {a : Nat} (himg : inImg a = true) (b : Byte) :
    StoredFits { s with mem := writeByte s.mem a b } := by
  obtain ⟨hinvalid, hvalid, htail, hwf, hcells⟩ := h
  refine ⟨hinvalid, hvalid, fun i hle hi => ?_, wf_writeByte _ _ _ hwf, fun c hc => ?_⟩
  · have hne : chipidBase + i ≠ a := by
      rintro rfl
      exact Bool.false_ne_true ((inChipid_of_inImg himg).symm.trans (inChipid_chipidBase_add hi))
    rw [readByte_writeByte_other _ _ hne]
    exact htail i hle hi
  · rcases mem_writeByte hc with rfl | hc
    · exact .inr himg
    · exact hcells c hc

/-- Storing the first identifier of a session: nothing but zeros stood in the buffer. -/
theorem storedFits_storeId {s : State} (h : StoredFits s) (hid : s.idValid = false) : StoredFits s.storeId := by
  obtain ⟨hinvalid, -, htail, hwf, hcells⟩ := h
  have hn := s.idn.isLt
  have hlen : s.storeId.chipidLen.toNat = s.idn.toNat + 1 := toNat_identifierLength s.idn
  refine ⟨by simp, fun _ => ⟨by omega, by omega⟩, fun i hle hi => ?_, wf_writeBytes _ _ _ hwf, fun c hc => ?_⟩
  · rw [readByte_storeId_outside (by omega)]
    exact htail i (by simp [hinvalid hid]) hi
  · rcases mem_writeBytes _ hc with ⟨hlow, hhigh⟩ | hc
    · rw [List.length_take] at hhigh
      unfold chipidBase at hlow hhigh
      exact .inl (inChipid_iff.2 (by omega))
    · exact hcells c hc

/-! ## Every move keeps `Inv` -/

theorem memoryFits_of_inv {s : State} (h : Inv s) : MemoryFits s := by
  obtain ⟨-, -, -, hmem⟩ := storedFits_of_inv h
  exact hmem

theorem inv_accept {s : State} (h : Inv s) {op : HostOp} (hop : op ≠ .newSession)
    (hlegal : s.refusal op = none) : Inv (s.accept op) := by
  obtain ⟨-, hlegal, hoperands⟩ := refusal_none hop hlegal
  have hentry : operation op.entry = some op := by
    cases op
    case newSession => exact absurd rfl hop
    all_goals rfl
  have hnotWriting : writing op.entry = false := by cases op <;> rfl
  have hstored := storedFits_of_inv h
  have hfailure := failureRecorded_of_inv h
  refine inv_of_running hentry rfl rfl rfl ?_ ?_ ?_ ?_ hstored hfailure
  · unfold SessionFits
    cases op <;> simp_all [State.legal, HostOp.entry, operation]
  · intro hupload
    obtain rfl : op = .upload := Option.some.inj (hentry.symm.trans hupload)
    have hoperands := hoperands rfl
    simp only [State.uploadOperandsOk, decide_eq_true_eq] at hoperands
    simpa using hoperands
  · intro hwriting
    simp [hnotWriting] at hwriting
  · cases op <;> simp [HostOp.entry]

theorem inv_of_hostMove {s t : State} (h : Inv s) (hmove : HostMove s t) : Inv t := by
  have finished : s.busy = false → s.seq = .idle ∧ s.session ≠ .programming := fun hidle =>
    ⟨seq_idle_of_inv h hidle, session_ne_programming_of_inv h hidle⟩
  have hstored := storedFits_of_inv h
  have hfailure := failureRecorded_of_inv h
  cases hmove with
  | stay => exact h
  | setBase hidle v =>
    obtain ⟨hseq, hsession⟩ := finished hidle
    exact inv_of_idle hidle hseq hsession hstored hfailure
  | setLen hidle v =>
    obtain ⟨hseq, hsession⟩ := finished hidle
    exact inv_of_idle hidle hseq hsession hstored hfailure
  | setTack _ v => exact h
  | setTerase _ v => exact h
  | setImage _ himg b =>
    obtain ⟨hbusy, hrecorded, hsession, hupload, hchunk, hident, -, hfailure, -⟩ := h
    obtain ⟨-, -, htail, hmem⟩ := storedFits_writeByte hstored himg b
    exact ⟨hbusy, hrecorded, hsession, hupload, hchunk, hident, htail, hfailure, hmem⟩
  | read v draws => exact h
  | push b => exact h
  | refuse hidle c =>
    obtain ⟨hseq, hsession⟩ := finished hidle
    exact inv_of_idle hidle hseq hsession hstored hfailure
  | accept _ hop hlegal => exact inv_accept h hop hlegal

/-- An operation that goes on keeps every part of `Inv` (R28). -/
theorem inv_advance {s : State} (h : Inv s) {q : Seq} (hcontinues : Continues s.seq q) (rxq txlog : List Byte)
    (evlog : List Event) (draws : Nat) (idn : Byte) (idtmp : List Byte)
    (hidtmp : q = .giFinal → idtmp.length = idn.toNat + 1) :
    Inv { s with
      seq := q, rxq := rxq, txlog := txlog, evlog := evlog, draws := draws, idn := idn, idtmp := idtmp } := by
  obtain ⟨hrunning, hop, hwriting⟩ := hcontinues
  obtain ⟨op, hs⟩ := Option.ne_none_iff_exists'.1 hrunning
  obtain ⟨hbusy, hcode, hresult⟩ := operationRecorded_of_inv h hs
  have hstored := storedFits_of_inv h
  have hfailure := failureRecorded_of_inv h
  obtain ⟨-, -, hsession, hupload, hchunk, -⟩ := h
  refine inv_of_running (hop.trans hs) hbusy hcode hresult ?_ ?_ ?_ hidtmp hstored hfailure
  · unfold SessionFits at hsession ⊢
    simpa only [hop, hwriting] using hsession
  · exact fun hq => hupload (hop.symm.trans hq)
  · exact fun hq => hchunk (hwriting.symm.trans hq)

/-- `Inv` after a finished operation whose session was not FAILED and neither is nor becomes PROGRAMMING (R120). -/
theorem inv_finish {s : State} (h : Inv s) (hrunning : operation s.seq ≠ none) (rxq : List Byte) (v : Session)
    (e : Event) (r : ResultCode) (hv : v ≠ .programming) (hv' : v ≠ .failed) :
    Inv (((State.setSession { s with rxq := rxq } v).emit e).finish r) :=
  inv_of_idle rfl rfl hv (storedFits_of_inv (s := s) h)
    (failureRecorded_of_eq (failureRecorded_of_inv h) (not_failed_of_not_terminal (not_terminal_of_inv h hrunning)) hv'
      rfl rfl rfl)

/-- The account of a chunk stays within `LEN` (R87, R113). -/
theorem inv_endChunk {s : State} (h : Inv s) (hq : s.seq = .wrAckData)
    (hsum : s.bytesWritten.toNat + s.chunkLen.toNat < 2 ^ 32) (rxq : List Byte) (evlog : List Event) :
    Inv { s with
      rxq := rxq, bytesWritten := s.bytesWritten + s.chunkLen.setWidth 32, evlog := evlog, seq := .upNext } := by
  have hsession := session_of_writing h (by rw [hq]; rfl)
  obtain ⟨hbusy, hcode, hresult⟩ := operationRecorded_of_inv (op := .upload) h (by rw [hq]; rfl)
  have hstored := storedFits_of_inv h
  have hfailure := failureRecorded_of_inv h
  obtain ⟨-, -, -, hupload, hchunk, -⟩ := h
  obtain ⟨-, hmax, hbase⟩ := hupload (by rw [hq]; rfl)
  obtain ⟨hmore, hlen, -⟩ := hchunk (by rw [hq]; rfl)
  have hcount : (s.bytesWritten + s.chunkLen.setWidth 32).toNat = s.bytesWritten.toNat + s.chunkLen.toNat := by
    rw [BitVec.toNat_add, toNat_setWidth_chunkLen, Nat.mod_eq_of_lt hsum]
  refine inv_of_running (op := .upload) rfl hbusy hcode hresult (.inl hsession) (fun _ => ⟨?_, hmax, hbase⟩)
    (by simp [ChunkFits, writing]) (by simp) hstored hfailure
  show (s.bytesWritten + s.chunkLen.setWidth 32).toNat ≤ s.len.toNat
  omega

/-- The next chunk is inside the image and its address inside the address space (R87, R112). -/
theorem inv_nextChunk {s : State} (h : Inv s) (hq : s.seq = .upNext) (hmore : s.bytesWritten.toNat < s.len.toNat)
    (hsum : s.base.toNat + s.bytesWritten.toNat < 2 ^ 32) :
    Inv { s with
      chunkLen := BitVec.ofNat 9 (min 256 (s.len.toNat - s.bytesWritten.toNat))
      chunkAddr := s.base + s.bytesWritten
      session := if s.session = .erased then .programming else s.session
      seq := .wrSendCmd } := by
  have hsession : (if s.session = .erased then .programming else s.session) = Session.programming := by
    rcases session_of_upNext h hq with hs | ⟨hs, -⟩ <;> simp [hs]
  obtain ⟨hbusy, hcode, hresult⟩ := operationRecorded_of_inv (op := .upload) h (by rw [hq]; rfl)
  have hstored := storedFits_of_inv h
  have hfailure := failureRecorded_of_inv h
  have hs := not_failed_of_not_terminal (not_terminal_of_inv h (by rw [hq]; decide))
  obtain ⟨-, -, -, hupload, -⟩ := h
  refine inv_of_running (op := .upload) rfl hbusy hcode hresult hsession (fun _ => hupload (by rw [hq]; rfl))
    (fun _ => ⟨hmore, ?_, ?_⟩) (by simp) hstored (failureRecorded_of_eq hfailure hs (by simp [hsession]) rfl rfl rfl)
  · simp only [BitVec.toNat_ofNat]
    omega
  · simp only [BitVec.toNat_add, Nat.mod_eq_of_lt hsum]

theorem inv_of_engineMove {s t : State} (h : Inv s) (hmove : EngineMove s t) : Inv t := by
  have hstored := storedFits_of_inv h
  have hfailure := failureRecorded_of_inv h
  cases hmove with
  | stay => exact h
  | advance rxq events draws idn idtmp hcontinues hframe hidtmp =>
    exact inv_advance h hcontinues rxq _ _ draws idn idtmp hidtmp
  | @fail rxq g k hstage =>
    have hg : g ≠ .none := by
      rintro rfl
      cases hq : s.seq <;> simp [hq, stageOf] at hstage
    exact inv_of_idle rfl rfl (by simp) hstored (failureRecorded_fail _ k hg)
  | endSync rxq hq hack => exact inv_finish h (by rw [hq]; decide) rxq _ _ _ (by decide) (by decide)
  | endErase rxq hq hack => exact inv_finish h (by rw [hq]; decide) rxq _ _ _ (by decide) (by decide)
  | endGetId rxq idn idtmp hop =>
    obtain ⟨hsession, hid⟩ := session_of_getId h hop
    exact inv_of_idle rfl rfl (by simp [hsession])
      (storedFits_storeId (s := { s with rxq := rxq, idn := idn, idtmp := idtmp }) hstored hid) hfailure
  | endChunk rxq hq hsum => exact inv_endChunk h hq hsum rxq _
  | endUpload hq hall => exact inv_finish h (by rw [hq]; decide) s.rxq _ _ _ (by decide) (by decide)
  | nextChunk hq hmore hsum => exact inv_nextChunk h hq hmore hsum

theorem inv_newSession {s : State} (h : Inv s) (hidle : s.busy = false) : Inv s.newSession :=
  inv_of_idle hidle (seq_idle_of_inv (s := s) h hidle) (by simp) (storedFits_of_clear (memoryFits_of_inv h) rfl rfl rfl)
    (failureRecorded_of_clear (by simp) rfl rfl rfl)

/-- Power-on reset needs of the state before it only that its memory is canonical (R138). -/
theorem inv_powerOn {s : State} (h : MemoryFits s) : Inv s.powerOn :=
  inv_of_idle rfl rfl (by simp [State.powerOn, State.reset]) (storedFits_of_clear h rfl rfl rfl)
    (failureRecorded_of_clear (by simp [State.powerOn, State.reset]) rfl rfl rfl)

theorem memoryFits_reset : MemoryFits State.reset := ⟨wf_reset, by simp [State.reset]⟩

/-- A turn taken out of the schedule is no part of `Inv`. -/
theorem inv_popTurn {s : State} (h : Inv s) : Inv s.popTurn := h

end Sys2Proof.Machine

namespace Sys2Proof.Proofs

open Sys2Proof.Machine

/-- Settles O48: resetting the reset state changes nothing. -/
theorem resetSatisfiesInv : Obligations.ResetSatisfiesInv := inv_powerOn memoryFits_reset

/-- Settles O49, move by move. -/
theorem everyStepKeepsInv : Obligations.EveryStepKeepsInv := by
  intro s t hinv hstep
  have hinv := inv_popTurn hinv
  rcases move_of_step hstep with ⟨-, rfl | ⟨hidle, rfl⟩⟩ | hmove | hmove
  · exact inv_powerOn (memoryFits_of_inv hinv)
  · exact inv_newSession hinv hidle
  · exact inv_of_hostMove hinv hmove
  · exact inv_of_engineMove hinv hmove

/-- Settles O51: with no cell listed, every `CHIPID` byte reads `0x00` and no image byte has a value. -/
theorem resetStateHasTheTableValues : Obligations.ResetStateHasTheTableValues := by
  refine ⟨rfl, rfl, rfl, rfl, rfl, rfl, rfl, rfl, rfl, rfl, rfl, rfl, rfl, rfl, fun i hi => ?_, fun i => ?_⟩
  · exact readByte_clearChipid_chipid [] (inChipid_chipidBase_add hi)
  · simp [State.reset, unlisted, inChipid_imgBase_add]

/-- Settles O52: `clearChipid` is the memory, and it leaves every image byte. -/
theorem powerOnResetTakesTheResetValues : Obligations.PowerOnResetTakesTheResetValues := by
  intro s rest hsched
  refine ⟨clearChipid s.mem, step_of_turn hsched (fetch_of_powerOn (nextAction_of_sched hsched)), fun i hi => ?_,
    fun i => ?_⟩
  · exact readByte_clearChipid_chipid _ (inChipid_chipidBase_add hi)
  · exact readByte_clearChipid_other _ (inChipid_imgBase_add i)

end Sys2Proof.Proofs
end

section
/-! PROOFS. Proofs/History.lean: what no step takes back: the bytes sent and the events emitted, the session's order,
the failure record, the identifier received (R19, R27, R30, R33). -/

namespace Sys2Proof.Machine

open Sys2Proof.Safety

/-! ## The logs -/

/-- `t` has sent one frame or nothing since `s`, and has recalled nothing. -/
def AppendsOneFrame (s t : State) : Prop :=
  ∃ (f : List Byte) (ev : List Event), t.txlog = s.txlog ++ f ∧ t.evlog = s.evlog ++ ev ∧ (f = [] ∨ IsSentFrame f)

/-- Nothing is sent. -/
theorem appendsOneFrame_of_events {s t : State} (ev : List Event) (htx : t.txlog = s.txlog)
    (hev : t.evlog = s.evlog ++ ev) : AppendsOneFrame s t :=
  ⟨[], ev, by simp [htx], hev, .inl rfl⟩

/-- Nothing is sent and nothing emitted. -/
theorem appendsOneFrame_of_eq {s t : State} (htx : t.txlog = s.txlog) (hev : t.evlog = s.evlog) :
    AppendsOneFrame s t :=
  appendsOneFrame_of_events [] htx (by simp [hev])

theorem appendsOneFrame_of_hostMove {s t : State} (hmove : HostMove s t) : AppendsOneFrame s t := by
  cases hmove <;> exact appendsOneFrame_of_eq rfl rfl

theorem appendsOneFrame_of_engineMove {s t : State} (hmove : EngineMove s t) : AppendsOneFrame s t := by
  cases hmove with
  | stay => exact appendsOneFrame_of_eq rfl rfl
  | advance rxq events draws idn idtmp hcontinues hframe hidtmp => exact ⟨_, events, rfl, rfl, hframe⟩
  | fail rxq k hstage => exact appendsOneFrame_of_events _ rfl rfl
  | endSync rxq hq hack => exact appendsOneFrame_of_events _ rfl rfl
  | endErase rxq hq hack => exact appendsOneFrame_of_events _ rfl rfl
  | endGetId rxq idn idtmp hop => exact appendsOneFrame_of_events _ rfl rfl
  | endChunk rxq hq hsum => exact appendsOneFrame_of_events _ rfl rfl
  | endUpload hq hall => exact appendsOneFrame_of_events _ rfl rfl
  | nextChunk hq hmore hsum => exact appendsOneFrame_of_eq rfl rfl

/-! ## The session -/

/-- Every stage belongs to an operation (R28, R127). -/
theorem operation_of_stageOf {q : Seq} {g : Stage} (h : stageOf q = some g) : operation q ≠ none := by
  cases q <;> simp [stageOf, operation] at h ⊢

/-- The host alone moves no session. -/
theorem session_of_hostMove {s t : State} (hmove : HostMove s t) : t.session = s.session := by
  cases hmove <;> rfl

/-- The transitions of R27 that the engine makes, each at the step named for it; or none. -/
abbrev EngineTransition (s t : State) : Prop :=
  t.session = s.session ∨
  (s.session = .uninitialized ∧ s.seq = .syWait ∧ s.rxq.head? = some 0x79#8 ∧ t.session = .synchronized) ∨
  (s.session = .synchronized ∧ s.seq = .erAckSel ∧ s.rxq.head? = some 0x79#8 ∧ t.session = .erased) ∨
  (s.session = .erased ∧ s.seq = .upNext ∧ s.len ≠ 0#32 ∧ t.session = .programming) ∨
  (s.session = .erased ∧ s.seq = .upNext ∧ s.len = 0#32 ∧ t.session = .complete) ∨
  (s.session = .programming ∧ s.seq = .upNext ∧ s.bytesWritten = s.len ∧ t.session = .complete) ∨
  (s.session.terminal = false ∧ (stageOf s.seq).isSome = true ∧ t.session = .failed)

theorem session_of_engineMove {s t : State} (h : Inv s) (hmove : EngineMove s t) : EngineTransition s t := by
  cases hmove with
  | stay => exact .inl rfl
  | advance => exact .inl rfl
  | fail rxq k hstage =>
    simp [EngineTransition, not_terminal_of_inv h (operation_of_stageOf hstage), hstage]
  | endSync rxq hq hack =>
    have hsession := session_of_sync h (by rw [hq]; rfl)
    simp [EngineTransition, hsession, hq, hack]
  | endErase rxq hq hack =>
    have hsession := session_of_eraseAll h (by rw [hq]; rfl)
    simp [EngineTransition, hsession, hq, hack]
  | endGetId => exact .inl rfl
  | endChunk => exact .inl rfl
  | endUpload hq hall =>
    rcases session_of_upNext h hq with hsession | ⟨hsession, hzero⟩
    · simp [EngineTransition, hsession, hq, hall]
    · simp [EngineTransition, hsession, hq, ← hall, hzero]
  | nextChunk hq hmore hsum =>
    rcases session_of_upNext h hq with hsession | ⟨hsession, -⟩
    · simp [EngineTransition, hsession]
    · have hlen : s.len ≠ 0#32 := fun hzero => by simp [hzero] at hmore
      simp [EngineTransition, hsession, hq, hlen]

/-! ## The failure record -/

/-- The three fields of the record (R19, R22). -/
abbrev SameFailureRecord (s t : State) : Prop :=
  t.failKind = s.failKind ∧ t.failStage = s.failStage ∧ t.failAddr = s.failAddr

theorem failureRecord_of_hostMove {s t : State} (hmove : HostMove s t) : SameFailureRecord s t := by
  cases hmove <;> exact ⟨rfl, rfl, rfl⟩

/-- Only `Fail` writes the record, and it does so on entry to FAILED (R129). -/
theorem failureRecord_of_engineMove {s t : State} (h : Inv s) (hmove : EngineMove s t) :
    SameFailureRecord s t ∨ (s.session ≠ .failed ∧ t.session = .failed) := by
  cases hmove
  case fail rxq g k hstage =>
    exact .inr ⟨not_failed_of_not_terminal (not_terminal_of_inv h (operation_of_stageOf hstage)), rfl⟩
  all_goals exact .inl ⟨rfl, rfl, rfl⟩

/-! ## The identifier -/

/-- The identifier registers and the buffer are the same (R24, R30). -/
abbrev SameIdentifier (s t : State) : Prop :=
  t.idValid = s.idValid ∧ t.chipidLen = s.chipidLen ∧ ∀ a, inChipid a = true → readByte t.mem a = readByte s.mem a

/-- The host writes image bytes alone (R38). -/
theorem identifier_of_hostMove {s t : State} (hmove : HostMove s t) : SameIdentifier s t := by
  cases hmove
  case setImage a hidle himg b =>
    refine ⟨rfl, rfl, fun x hx => readByte_writeByte_other _ _ ?_⟩
    rintro rfl
    exact Bool.false_ne_true ((inChipid_of_inImg himg).symm.trans hx)
  all_goals exact ⟨rfl, rfl, fun _ _ => rfl⟩

/-- Only a GET_ID that runs stores an identifier, and it runs only while none is received (R96). -/
theorem identifier_of_engineMove {s t : State} (h : Inv s) (hid : s.idValid = true) (hmove : EngineMove s t) :
    SameIdentifier s t := by
  cases hmove
  case endGetId rxq idn idtmp hop =>
    obtain ⟨-, hnone⟩ := session_of_getId h hop
    exact absurd (hid.symm.trans hnone) (by decide)
  all_goals exact ⟨rfl, rfl, fun _ _ => rfl⟩

/-! ## Memory -/

/-- Of the ends of a read only that of GET_ID's final stage writes memory. -/
theorem mem_of_completeRead {r : List Byte} {s t : State} (h : completeRead r s = .next t) :
    t.mem = s.mem ∨ (s.seq = .giFinal ∧ r.head? = some 0x79#8 ∧ t = s.storeId) := by
  rcases completeRead_cases h with ⟨g, k, -, rfl⟩ | ⟨-, -, rfl⟩ | ⟨-, -, rfl⟩ | ⟨-, n, q, -, rfl⟩ | ⟨-, -, rfl⟩ |
    ⟨hq, hack, rfl⟩ | ⟨-, -, rfl⟩ | ⟨-, -, rfl⟩ | ⟨-, -, rfl⟩ | ⟨-, -, rfl⟩ | ⟨-, -, hdone⟩ | ⟨-, rfl⟩
  iterate 5 exact .inl rfl
  · exact .inr ⟨hq, hack, rfl⟩
  iterate 4 exact .inl rfl
  · obtain ⟨-, rfl⟩ := chunkDone_cases hdone
    exact .inl rfl
  · exact .inl rfl

/-- What an instruction does to memory: nothing, clear the `CHIPID` buffer, or store an identifier in it (R30, R31). -/
theorem mem_of_exec {i : Instr} {s t : State} (h : exec i s = .next t) (hwf : i.wf = true) :
    t.mem = s.mem ∨ ((∃ w, i = .newSession w) ∧ t.mem = clearChipid s.mem) ∨
    (((i = .respAck ∧ s.seq = .giFinal) ∨ ∃ ident, i = .getidResponse ident) ∧
      ∀ a, inChipid a = false → readByte t.mem a = readByte s.mem a) := by
  rcases exec_cases h with rfl | ⟨-, -, c, rfl⟩ | ⟨-, -, op, -, -, rfl⟩ | ⟨hnew, -, rfl⟩ | ⟨-, -, rfl⟩ | ⟨-, -, rfl⟩ |
    ⟨-, -, rfl⟩ | ⟨-, -, rfl⟩ | ⟨-, -, rfl⟩ | ⟨-, -, rfl⟩ | ⟨-, -, rfl⟩ | ⟨b, hi, -, -, h⟩ |
    ⟨ident, rfl, hq, ⟨q, hrxq⟩, -⟩
  iterate 3 exact .inl rfl
  · exact .inr (.inl ⟨hnew, rfl⟩)
  iterate 7 exact .inl rfl
  · rcases mem_of_completeRead h with hmem | ⟨hq, hack, rfl⟩
    · exact .inl hmem
    · obtain rfl : b = 0x79#8 := by simpa using hack
      rcases hi with rfl | ⟨rfl, -⟩ | ⟨-, hb⟩
      · simp [Instr.wf] at hwf
      · exact .inr (.inr ⟨.inl ⟨rfl, hq⟩, fun a => readByte_storeId_of_not_inChipid (s := s.dropRx 1)⟩)
      · exact absurd hb (by decide)
  · obtain ⟨hpos, hle⟩ : 1 ≤ ident.length ∧ ident.length ≤ 256 := by simpa [Instr.wf, lengthOk] using hwf
    rw [exec_getidResponse_due hq hpos hle hrxq.symm] at h
    cases h
    exact .inr (.inr ⟨.inr ⟨ident, rfl⟩, fun a => readByte_storeId_of_not_inChipid⟩)

end Sys2Proof.Machine

namespace Sys2Proof.Proofs

open Sys2Proof.Machine Sys2Proof.Safety

/-- Settles O53: only `EngineMove.advance` sends, and only a frame. -/
theorem everyStepSendsOneFrameOrNothing : Obligations.EveryStepSendsOneFrameOrNothing := by
  intro s t hstep
  rcases move_of_step hstep with ⟨-, rfl | ⟨-, rfl⟩⟩ | hmove | hmove
  · exact appendsOneFrame_of_eq (s := s) rfl rfl
  · exact appendsOneFrame_of_eq (s := s) rfl rfl
  · exact appendsOneFrame_of_hostMove (s := s.popTurn) hmove
  · exact appendsOneFrame_of_engineMove (s := s.popTurn) hmove

/-- Settles O54: a move of the host leaves the session, one of the engine makes a listed transition, and the rest start
the session over. -/
theorem onlyListedTransitionsChangeTheSession : Obligations.OnlyListedTransitionsChangeTheSession := by
  intro s t hinv hstep
  rcases move_of_step hstep with ⟨hover, ht⟩ | hmove | hmove
  · have ht : t.session = .uninitialized := by rcases ht with rfl | ⟨-, rfl⟩ <;> rfl
    simp only [hover, ht, and_self, or_true]
  · exact .inl (session_of_hostMove (s := s.popTurn) hmove)
  · have h : EngineTransition s t := session_of_engineMove (s := s.popTurn) hinv hmove
    simpa only [EngineTransition, or_assoc] using Or.inl (b := StartsOver s ∧ t.session = .uninitialized) h

/-- Settles O55: the only move that writes the record enters FAILED. -/
theorem failureRecordIsKept : Obligations.FailureRecordIsKept := by
  intro s t hinv hstep hover hentry
  rcases move_of_step hstep with ⟨h, -⟩ | hmove | hmove
  · exact absurd h hover
  · exact failureRecord_of_hostMove (s := s.popTurn) hmove
  · exact (failureRecord_of_engineMove (s := s.popTurn) hinv hmove).resolve_right hentry

/-- Settles O56: the only move that stores an identifier needs that none is valid. -/
theorem receivedIdentifierIsImmutable : Obligations.ReceivedIdentifierIsImmutable := by
  intro s t hinv hid hstep hover
  have hsame : SameIdentifier s t := by
    rcases move_of_step hstep with ⟨h, -⟩ | hmove | hmove
    · exact absurd h hover
    · exact identifier_of_hostMove (s := s.popTurn) hmove
    · exact identifier_of_engineMove (s := s.popTurn) hinv hid hmove
  obtain ⟨hvalid, hlen, hmem⟩ := hsame
  exact ⟨hvalid.trans hid, hlen, hmem⟩

/-- Settles O43: only `newSession` and `storeId` write memory, and both write the `CHIPID` window alone. -/
theorem instructionsWriteOnlyTheIdentifierBuffer : Obligations.InstructionsWriteOnlyTheIdentifierBuffer := by
  intro i s t hwf hexec
  rcases mem_of_exec hexec hwf with hmem | ⟨hnew, hmem⟩ | ⟨hstore, hmem⟩
  · exact ⟨fun a _ => by rw [hmem], absurd hmem⟩
  · exact ⟨fun a ha => hmem ▸ readByte_clearChipid_other s.mem ha, fun _ => .inl hnew⟩
  · exact ⟨hmem, fun _ => .inr hstore⟩

end Sys2Proof.Proofs
end

section
/-! PROOFS. Proofs/Progress.lean: a step from a state that satisfies `Inv` answers a next state (R39, R87, R106, R124).
The machine stops in three places alone (log entry 6): `upNext`, `chunkDone` and the decoding of a data frame. `Inv`
rules out each; every other meaning answers whatever the state is. -/

namespace Sys2Proof.Machine

open Sys2Proof.Safety

/-- The result is a next state, neither a fault nor a refusal. -/
abbrev Answers (r : StepResult) : Prop := ∃ t, r = .next t

theorem answers_next (s : State) : Answers (.next s) := ⟨s, rfl⟩

/-! ## The three stops -/

/-- An accounted chunk ends inside the upload, whose length is a 32-bit value (R87). -/
theorem chunkDone_answers {s : State} (h : Inv s) (hq : s.seq = .wrAckData) : Answers (chunkDone s) := by
  obtain ⟨-, -, -, -, hchunk, -⟩ := h
  obtain ⟨hmore, hlen, -⟩ := hchunk (by rw [hq]; rfl)
  have hlt := s.len.isLt
  have hsum : ¬ 2 ^ 32 ≤ s.bytesWritten.toNat + s.chunkLen.toNat := by omega
  exact ⟨_, if_neg hsum⟩

/-- The next chunk begins inside the upload, which ends inside the address space (R87, R109). -/
theorem upNext_answers {s : State} (h : Inv s) (hq : s.seq = .upNext) : Answers (upNext s) := by
  obtain ⟨-, -, -, hupload, -⟩ := h
  obtain ⟨hle, -, hfits⟩ := hupload (by rw [hq]; rfl)
  by_cases hall : s.bytesWritten = s.len
  · exact ⟨_, if_pos hall⟩
  · have hne : s.bytesWritten.toNat ≠ s.len.toNat := fun he => hall (BitVec.eq_of_toNat_eq he)
    have hoverrun : ¬ s.len.toNat < s.bytesWritten.toNat := by omega
    have hsum : ¬ 2 ^ 32 ≤ s.base.toNat + s.bytesWritten.toNat := by omega
    exact ⟨_, (if_neg hall).trans ((if_neg hoverrun).trans (if_neg hsum))⟩

/-- A chunk that is being written has 1 to 256 bytes (R80, R110). -/
theorem chunkLen_of_inv {s : State} (h : Inv s) (hq : writing s.seq = true) :
    1 ≤ s.chunkLen.toNat ∧ s.chunkLen.toNat ≤ 256 := by
  obtain ⟨-, -, -, -, hchunk, -⟩ := h
  obtain ⟨hmore, hlen, -⟩ := hchunk hq
  omega

theorem frameToSend_decodes {s : State} (h : Inv s) {f : Format} {bs : List Byte}
    (hframe : s.frameToSend = some (f, bs)) : ∃ i, decode f bs = .ok i := by
  unfold State.frameToSend at hframe
  split at hframe <;> cases hframe
  · exact ⟨_, decode_initFrame⟩
  · exact ⟨_, decode_commandFrame_getId⟩
  · exact ⟨_, decode_commandFrame_extendedErase⟩
  · exact ⟨_, decode_selectorFrame⟩
  · exact ⟨_, decode_commandFrame_writeMemory⟩
  · exact ⟨_, decode_addressFrame _⟩
  · rename_i hq
    obtain ⟨hpos, hle⟩ := chunkLen_of_inv h (by rw [hq]; rfl)
    rw [← chunkPayload_length] at hpos hle
    exact ⟨_, decode_dataFrame hpos hle⟩

/-- A command word and a response byte always decode, and an identifier response is presented only if it does. -/
theorem fetch_decodes {s : State} (h : Inv s) {f : Format} {bs : List Byte} (hfetch : s.fetch = some (f, bs)) :
    ∃ i, decode f bs = .ok i := by
  unfold State.fetch at hfetch
  split at hfetch
  · split_ifs at hfetch
    cases hfetch
    exact ⟨_, decode_wordBytes _⟩
  · split at hfetch
    · rename_i hframe
      exact frameToSend_decodes h (hframe.trans hfetch)
    · unfold State.respToRead at hfetch
      split_ifs at hfetch
      split at hfetch <;> cases hfetch
      exact ⟨_, rfl⟩
  · unfold State.idRespToRead at hfetch
    split at hfetch
    · split at hfetch <;> cases hfetch
      exact ⟨_, ‹_›⟩
    · cases hfetch
  all_goals cases hfetch

/-! ## Reads -/

theorem awaitAck_answers {g : Stage} {s : State} {onAck : State → StepResult} (r : List Byte)
    (hack : Answers (onAck s)) : Answers (awaitAck g r s onAck) := by
  unfold awaitAck
  split
  · exact hack
  all_goals exact answers_next _

theorem completeRead_answers {s : State} (h : Inv s) (r : List Byte) : Answers (completeRead r s) := by
  cases hq : s.seq <;> simp only [completeRead, hq]
  case wrAckData => exact awaitAck_answers r (chunkDone_answers h hq)
  case giAck | erAckCmd | erAckSel | wrAckCmd | wrAckAddr => exact awaitAck_answers r (answers_next _)
  case syWait | giLen | giData | giFinal => split <;> exact answers_next _
  all_goals exact answers_next _

theorem recvData_answers {s : State} (h : Inv s) : Answers (recvData s) := by
  unfold recvData
  split
  · exact answers_next _
  · rename_i n _ _
    split
    · exact completeRead_answers (s := s.dropRx n) h _
    · exact answers_next _

theorem recvTimeout_answers {s : State} (h : Inv s) : Answers (recvTimeout s) := by
  unfold recvTimeout
  split
  · exact answers_next _
  · split
    · exact completeRead_answers (s := s.clearInput) h _
    · exact answers_next _

theorem takeResp_answers {s : State} (h : Inv s) (b : Byte) : Answers (takeResp b s) := by
  unfold takeResp
  split
  · exact completeRead_answers (s := s.dropRx 1) h _
  · exact answers_next _

/-- A result after which the engine can read on. -/
abbrev AnswersInv (r : StepResult) : Prop := ∃ t, r = .next t ∧ Inv t

theorem recvData_answersInv {s : State} (h : Inv s) : AnswersInv (recvData s) := by
  obtain ⟨t, ht⟩ := recvData_answers h
  exact ⟨t, ht, inv_of_engineMove h (engineMove_of_recvData ht)⟩

theorem andThen_recvData_answersInv {r : StepResult} (h : AnswersInv r) : AnswersInv (andThen r recvData) := by
  obtain ⟨t, rfl, ht⟩ := h
  exact recvData_answersInv ht

/-- The four reads of GET_ID in one turn: each leaves a state from which the next can be made. -/
theorem execGetidResponse_answers {s : State} (h : Inv s) (ident : List Byte) :
    Answers (execGetidResponse ident s) := by
  unfold execGetidResponse
  split
  · obtain ⟨t, ht, -⟩ := andThen_recvData_answersInv
      (andThen_recvData_answersInv (andThen_recvData_answersInv (recvData_answersInv h)))
    exact ⟨t, ht⟩
  · exact answers_next _

/-! ## Instructions and turns -/

theorem whenIdle_answers (s : State) (act : State → State) : Answers (whenIdle s act) := by
  unfold whenIdle
  split <;> exact answers_next _

theorem whenDue_answers (s : State) (due : Prop) [Decidable due] (act : State → State) :
    Answers (whenDue s due act) := by
  unfold whenDue
  split <;> exact answers_next _

theorem exec_answers {s : State} (h : Inv s) (i : Instr) : Answers (exec i s) := by
  cases i <;> simp only [exec]
  case sync | getId | eraseAll | upload | newSession | reserved0 | reserved67 | reserved8F =>
    exact whenIdle_answers s _
  case init | cmdGetId | cmdExtendedErase | cmdWriteMemory | massEraseSelector | addressFrame | dataFrame =>
    exact whenDue_answers s _ _
  case respAck | respNack | respOther => exact takeResp_answers h _
  case getidResponse ident => exact execGetidResponse_answers h ident

theorem engineTurn_answers {s : State} (h : Inv s) : Answers (engineTurn s) := by
  cases hq : s.seq <;> simp only [engineTurn, hq]
  case upNext => exact upNext_answers h hq
  case giLen | giData => exact recvData_answers h
  all_goals exact answers_next _

theorem takeTurn_answers {s : State} (h : Inv s) (a : Action) : Answers (takeTurn a s) := by
  cases a
  case engine => exact engineTurn_answers h
  case timeout => exact recvTimeout_answers h
  all_goals exact answers_next _

end Sys2Proof.Machine

namespace Sys2Proof.Proofs

open Sys2Proof.Machine

/-- Settles O50: a presented unit decodes and its meaning answers; so does a turn that presents none. -/
theorem invStatesAlwaysStepOn : Obligations.InvStatesAlwaysStepOn := by
  intro s h
  cases hfetch : s.fetch with
  | none =>
    obtain ⟨t, ht⟩ := takeTurn_answers (inv_popTurn h) s.nextAction
    exact ⟨t, by simp only [step, hfetch, ht]⟩
  | some u =>
    obtain ⟨i, hdecode⟩ := fetch_decodes h hfetch
    obtain ⟨t, ht⟩ := exec_answers (inv_popTurn h) i
    exact ⟨t, (step_eq_exec_of_fetch_eq_some hfetch hdecode).trans ht⟩

end Sys2Proof.Proofs
end

section
/-! PROOFS. Proofs/Timeout.lean: what each read asks for, the stage it belongs to, and how a timeout ends it (R45, R97,
R127, R128, R135). -/

namespace Sys2Proof.Machine

open Sys2Proof.Safety

/-- The selector's acknowledgement alone is awaited with `TERASE` (R135). -/
theorem timer_of_pendingRead {s : State} {n : Nat} {tm : Timer} (h : s.pendingRead = some (n, tm)) :
    tm = .terase ↔ s.seq = .erAckSel := by
  unfold State.pendingRead at h
  split at h <;> cases h <;> rename_i hq <;> rw [hq] <;> decide

theorem length_of_pendingRead {s : State} {n : Nat} {tm : Timer} (h : s.pendingRead = some (n, tm)) :
    1 ≤ n ∧ n ≤ 256 := by
  have hidn := s.idn.isLt
  rcases pendingRead_cases h with ⟨-, rfl⟩ | ⟨-, rfl⟩ | ⟨-, rfl⟩ <;> omega

theorem stageOf_of_no_pendingRead {s : State} (h : s.pendingRead = none) : stageOf s.seq = none := by
  unfold State.pendingRead at h
  split at h <;> cases h <;> rename_i hq <;> rw [hq] <;> rfl

/-! ## A read that ends short -/

/-- A read of one byte that yields none (R97, R128). -/
theorem completeRead_nil {s : State} {g : Stage} (hstage : stageOf s.seq = some g) :
    completeRead [] s = .next (s.fail g (timeoutKind s.seq)) := by
  cases hq : s.seq <;> rw [hq] at hstage <;> cases hstage <;> simp only [completeRead, hq] <;> rfl

theorem completeRead_giData_short {s : State} {r : List Byte} (hq : s.seq = .giData)
    (hshort : r.length < s.idn.toNat + 1) : completeRead r s = .next (s.fail .getidData .desync) := by
  simp only [completeRead, hq, hshort, if_true]

/-- Fewer bytes than the read asks for fail its stage: none at all, or at `GI_DATA` less than the identifier. -/
theorem completeRead_short {s : State} {n : Nat} {tm : Timer} {g : Stage} {r : List Byte}
    (hread : s.pendingRead = some (n, tm)) (hstage : stageOf s.seq = some g) (hshort : r.length < n) :
    completeRead r s = .next (s.fail g (timeoutKind s.seq)) := by
  rcases pendingRead_cases hread with ⟨-, rfl⟩ | ⟨-, rfl⟩ | ⟨hq, rfl⟩
  · rw [List.length_eq_zero_iff.1 (Nat.lt_one_iff.1 hshort), completeRead_nil hstage]
  · rw [List.length_eq_zero_iff.1 (Nat.lt_one_iff.1 hshort), completeRead_nil hstage]
  · obtain rfl : Stage.getidData = g := Option.some.inj ((congrArg stageOf hq).symm.trans hstage)
    rw [completeRead_giData_short hq hshort, hq]
    rfl

/-! ## The timeout turn -/

theorem fetch_of_timeout {s : State} (h : s.nextAction = .timeout) : s.fetch = none := by
  simp [State.fetch, h]

theorem step_of_timeout {s : State} {rest : List Action} (hsched : s.sched = .timeout :: rest) :
    step s = recvTimeout { s with sched := rest } :=
  step_of_turn hsched (fetch_of_timeout (nextAction_of_sched hsched))

theorem recvTimeout_of_lacking {s : State} {n : Nat} {tm : Timer} (hread : s.pendingRead = some (n, tm))
    (hlacking : s.rxq.length < n) : recvTimeout s = completeRead s.rxq s.clearInput := by
  simp only [recvTimeout, hread, hlacking, if_true]

theorem recvTimeout_of_waiting {s : State} {n : Nat} {tm : Timer} (hread : s.pendingRead = some (n, tm))
    (hwaiting : n ≤ s.rxq.length) : recvTimeout s = .next s := by
  simp only [recvTimeout, hread, Nat.not_lt.2 hwaiting, if_false]

theorem recvTimeout_of_no_pendingRead {s : State} (hread : s.pendingRead = none) : recvTimeout s = .next s := by
  simp only [recvTimeout, hread]

end Sys2Proof.Machine

namespace Sys2Proof.Proofs

open Sys2Proof.Machine Sys2Proof.Safety

/-- Settles O13: a timeout that is enabled ends the read short, and a short read fails its stage. -/
theorem timeoutFailsTheStage : Obligations.TimeoutFailsTheStage := by
  intro s rest hsched
  rw [step_of_timeout hsched]
  refine ⟨fun n tm g hread hstage => ⟨fun hlacking => ?_, fun hwaiting => ?_⟩, fun hnone => ?_⟩
  · calc recvTimeout { s with sched := rest }
      _ = completeRead s.rxq { s with sched := rest, rxq := [] } :=
        recvTimeout_of_lacking (s := { s with sched := rest }) hread hlacking
      _ = .next (State.fail { s with sched := rest, rxq := [] } g (timeoutKind s.seq)) :=
        completeRead_short (s := { s with sched := rest, rxq := [] }) hread hstage hlacking
  · exact recvTimeout_of_waiting (s := { s with sched := rest }) hread hwaiting
  · exact recvTimeout_of_no_pendingRead (s := { s with sched := rest }) hnone

/-- Settles O14: a read asks for one byte, or at `GI_DATA` for as many as its length byte declares. -/
theorem everyReadHasItsTimeoutRegister : Obligations.EveryReadHasItsTimeoutRegister := by
  refine fun s => ⟨fun n tm hread => ?_, stageOf_of_no_pendingRead⟩
  obtain ⟨hpos, hle⟩ := length_of_pendingRead hread
  exact ⟨hpos, hle, timer_of_pendingRead hread, Option.isSome_iff_ne_none.2 (stageOf_of_pendingRead hread)⟩

end Sys2Proof.Proofs
end

section
/-! PROOFS. Proofs/WriteFrames.lean: the two frames of WRITE MEMORY that carry an operand (R43, R61, R62, R108). -/

namespace Sys2Proof.Machine

theorem exec_addressFrame_due {s : State} (hq : s.seq = .wrSendAddr) :
    exec (.addressFrame s.chunkAddr) s = .next ((s.send (addressFrame s.chunkAddr)).goto .wrAckAddr) :=
  if_pos ⟨hq, rfl⟩

theorem exec_dataFrame_due {s : State} (hq : s.seq = .wrSendData) :
    exec (.dataFrame s.chunkPayload) s =
      .next { (s.send (dataFrame s.chunkPayload)).goto .wrAckData with draws := s.chunkDraws } :=
  if_pos ⟨hq, rfl⟩

/-- The data frame of a chunk, its length byte declaring `CHUNK_LEN` (R65, R76, R80). -/
theorem dataFrame_chunkPayload (s : State) :
    dataFrame s.chunkPayload = BitVec.ofNat 8 (s.chunkLen.toNat - 1) :: (s.chunkPayload ++
      [s.chunkPayload.foldl (· ^^^ ·) (BitVec.ofNat 8 (s.chunkLen.toNat - 1))]) := by
  simp only [dataFrame, lengthByte, blockChecksum, chunkPayload_length]

end Sys2Proof.Machine

namespace Sys2Proof.Proofs

open Sys2Proof.Machine

/-- Settles O31: the frame's five bytes are those of its builder. -/
theorem addressFrameIsSentAtItsStep : Obligations.AddressFrameIsSentAtItsStep :=
  fun _ hq => exec_addressFrame_due hq

/-- Settles O32: the payload is `CHUNK_LEN` image reads, and the frame is built from it. -/
theorem dataFrameIsSentAtItsStep : Obligations.DataFrameIsSentAtItsStep := by
  intro s hq
  refine ⟨chunkPayload_length s, fun j b => imgReads_written s.mem _ _ s.draws j b, s.chunkDraws, ?_⟩
  rw [← dataFrame_chunkPayload]
  exact exec_dataFrame_due hq

end Sys2Proof.Proofs
end

section
/-! PROOFS. Proofs/HostAccess.lean: host accesses while an operation runs (R51, R117), improper ones (R39), and writes of
image bytes (R37, R40). -/

namespace Sys2Proof.Machine

open Sys2Proof.Safety

/-! ## Host writes -/

/-- An aligned 32-bit write to `CMD` runs its operation (R55). -/
theorem step_of_commandWrite {s : State} {w : Word} {rest : List Action}
    (hsched : s.sched = .hostWrite 0x000#32 32 w :: rest) :
    step s = exec (decodeHostWord w) { s with sched := rest } := by
  have hfetch : s.fetch = some (.hostCmd, wordBytes w) := by simp [State.fetch, nextAction_of_sched hsched]
  exact step_of_unit hsched hfetch (decode_wordBytes w)

/-- A host write of any other address or width is no command. -/
theorem step_of_dataWrite {s : State} {addr v : Word} {width : Nat} {rest : List Action}
    (hsched : s.sched = .hostWrite addr width v :: rest) (hcmd : ¬ (addr = 0x000#32 ∧ width = 32)) :
    step s = .next (State.hostWrite { s with sched := rest } addr width v) := by
  have hfetch : s.fetch = none := by simp only [State.fetch, nextAction_of_sched hsched, hcmd, if_false]
  exact step_of_turn hsched hfetch

theorem hostWrite_img (s : State) {addr : Word} (v : Word) (hidle : s.busy = false) (himg : inImg addr.toNat = true) :
    s.hostWrite addr 8 v = { s with mem := writeByte s.mem addr.toNat (v.setWidth 8) } := by
  simp [State.hostWrite, hidle, inRegs_of_window (.inr himg), himg]

/-! ## While an operation runs -/

theorem hostWrite_of_busy {s : State} (hbusy : s.busy = true) (addr : Word) (width : Nat) (v : Word) :
    s.hostWrite addr width v = s :=
  if_pos hbusy

theorem whenIdle_of_busy {s : State} (hbusy : s.busy = true) (act : State → State) : whenIdle s act = .next s :=
  if_pos hbusy

theorem exec_of_busy {i : Instr} {s : State} (hformat : i.format = .hostCmd) (hbusy : s.busy = true) :
    exec i s = .next s := by
  cases i <;> simp only [exec]
  case sync | getId | eraseAll | upload | newSession | reserved0 | reserved67 | reserved8F =>
    exact whenIdle_of_busy hbusy _
  all_goals cases hformat

/-- What the host configures, and the image (R51). -/
abbrev SameConfiguration (s t : State) : Prop :=
  t.base = s.base ∧ t.len = s.len ∧ t.tack = s.tack ∧ t.terase = s.terase ∧
  ∀ i, readByte t.mem (imgBase + i) = readByte s.mem (imgBase + i)

theorem configuration_of_hostMove {s t : State} (hbusy : s.busy = true) (hmove : HostMove s t) :
    SameConfiguration s t := by
  have running : ¬ s.busy = false := by simp [hbusy]
  cases hmove with
  | stay | read | push => exact ⟨rfl, rfl, rfl, rfl, fun _ => rfl⟩
  | setBase hidle | setLen hidle | setTack hidle | setTerase hidle | setImage hidle | refuse hidle | accept hidle =>
    exact absurd hidle running

/-- The engine writes memory only when it stores an identifier, and then in the `CHIPID` window. -/
theorem configuration_of_engineMove {s t : State} (hmove : EngineMove s t) : SameConfiguration s t := by
  cases hmove
  case endGetId => exact ⟨rfl, rfl, rfl, rfl, fun i => readByte_storeId_of_not_inChipid (inChipid_imgBase_add i)⟩
  all_goals exact ⟨rfl, rfl, rfl, rfl, fun _ => rfl⟩

/-- A running operation keeps the host from NEW_SESSION, the other way to start over. -/
theorem nextAction_of_startsOver {s : State} (hbusy : s.busy = true) (h : StartsOver s) : s.nextAction = .powerOn := by
  rcases h with hpower | ⟨w, -, -, hidle⟩
  · exact hpower
  · simp [hbusy] at hidle

/-! ## Registers by their addresses -/

theorem offset_of_regAt {addr : Word} {r : HostReg} (h : regAt addr = some r) : addr = r.offset := by
  unfold regAt at h
  iterate 10
    rcases ite_eq_iff.1 h with ⟨haddr, hr⟩ | ⟨-, h⟩
    · cases hr; exact haddr
  cases h

theorem readReg_busy (s : State) (b : Bool) {r : HostReg} (hr : r ≠ .status) :
    State.readReg { s with busy := b } r = s.readReg r := by
  cases r
  case status => exact absurd rfl hr
  all_goals rfl

/-- `BUSY` is read in `STATUS` alone (R51). -/
theorem hostReadValue_busy (s : State) (b : Bool) {addr : Word} (width : Nat) (haddr : addr ≠ 0x004#32) :
    State.hostReadValue { s with busy := b } addr width = s.hostReadValue addr width := by
  unfold State.hostReadValue
  cases hreg : regAt addr with
  | none => rfl
  | some r =>
    have hr : r ≠ .status := by
      rintro rfl
      exact haddr (offset_of_regAt hreg)
    simp only [readReg_busy s b hr]

/-! ## Improper accesses -/

theorem properAccess_offset (r : HostReg) : ProperAccess r.offset 32 := by
  cases r <;> exact .inl (by decide)

theorem properAccess_chipid {addr : Word} (h : inChipid addr.toNat = true) : ProperAccess addr 8 := by
  obtain ⟨hlow, hhigh⟩ := inChipid_iff.1 h
  exact .inr (.inl ⟨hlow, hhigh, rfl⟩)

theorem properAccess_img {addr : Word} (h : inImg addr.toNat = true) : ProperAccess addr 8 := by
  obtain ⟨hlow, hhigh⟩ := inImg_iff.1 h
  exact .inr (.inr ⟨hlow, hhigh, rfl⟩)

/-- An improper access finds no register and no byte of a window. -/
theorem regAt_of_improper {addr : Word} (h : ¬ ProperAccess addr 32) : regAt addr = none := by
  by_contra hreg
  obtain ⟨r, hr⟩ := Option.ne_none_iff_exists'.1 hreg
  exact h (offset_of_regAt hr ▸ properAccess_offset r)

theorem inChipid_of_improper {addr : Word} (h : ¬ ProperAccess addr 8) : inChipid addr.toNat = false :=
  Bool.eq_false_iff.2 fun hchipid => h (properAccess_chipid hchipid)

theorem inImg_of_improper {addr : Word} (h : ¬ ProperAccess addr 8) : inImg addr.toNat = false :=
  Bool.eq_false_iff.2 fun himg => h (properAccess_img himg)

theorem hostWrite_improper (s : State) {addr : Word} {width : Nat} (v : Word) (h : ¬ ProperAccess addr width) :
    s.hostWrite addr width v = s := by
  by_cases h32 : width = 32
  · subst h32
    simp [State.hostWrite, regAt_of_improper h]
  · by_cases h8 : width = 8
    · subst h8
      simp [State.hostWrite, inImg_of_improper h]
    · simp [State.hostWrite, h32, h8]

theorem hostRead_improper (s : State) {addr : Word} {width : Nat} (h : ¬ ProperAccess addr width) :
    s.hostRead addr width = { s with rdata := 0#32 } := by
  by_cases h32 : width = 32
  · subst h32
    simp [State.hostRead, State.hostReadValue, State.hostReadDraws, regAt_of_improper h]
  · by_cases h8 : width = 8
    · subst h8
      simp [State.hostRead, State.hostReadValue, State.hostReadDraws, inChipid_of_improper h, inImg_of_improper h]
    · simp [State.hostRead, State.hostReadValue, State.hostReadDraws, h32, h8]

end Sys2Proof.Machine

namespace Sys2Proof.Proofs

open Sys2Proof.Machine Sys2Proof.Safety

/-- Settles O18: `hostRead` writes `rdata` and `draws` alone. -/
theorem hostReadHasNoSideEffect : Obligations.HostReadHasNoSideEffect :=
  fun _ _ _ _ hsched => ⟨_, _, step_of_hostRead hsched⟩

/-- Settles O28: every `HOSTCMD` meaning begins with `whenIdle`. -/
theorem commandWhileBusyIsIgnored : Obligations.CommandWhileBusyIsIgnored :=
  fun _ _ hformat hbusy => exec_of_busy hformat hbusy

/-- Settles O16: a command and any other write are ignored, `BUSY` is read in `STATUS` alone, and the only moves that
configure the machine need it idle. -/
theorem busyBlocksHostWrites : Obligations.BusyBlocksHostWrites := by
  intro s hbusy
  refine ⟨fun addr v width rest hsched => ?_, fun addr width haddr => (hostReadValue_busy s false width haddr).symm,
    fun t hstep hpower => ?_⟩
  · by_cases hcmd : addr = 0x000#32 ∧ width = 32
    · obtain ⟨rfl, rfl⟩ := hcmd
      rw [step_of_commandWrite hsched]
      exact exec_of_busy (decodeHostWord_format v) hbusy
    · rw [step_of_dataWrite hsched hcmd, hostWrite_of_busy (s := { s with sched := rest }) hbusy]
  · rcases move_of_step hstep with ⟨hover, -⟩ | hmove | hmove
    · exact absurd (nextAction_of_startsOver hbusy hover) hpower
    · exact configuration_of_hostMove (s := s.popTurn) hbusy hmove
    · exact configuration_of_engineMove (s := s.popTurn) hmove

/-- Settles O17: such an access finds no register and no byte, and is no command, `CMD` at 32 bits being proper. -/
theorem improperAccessHasNoEffect : Obligations.ImproperAccessHasNoEffect := by
  intro s addr v width rest himproper
  refine ⟨fun hsched => ?_, fun hsched => ?_⟩
  · have hcmd : ¬ (addr = 0x000#32 ∧ width = 32) := by
      rintro ⟨rfl, rfl⟩
      exact himproper (properAccess_offset .cmd)
    rw [step_of_dataWrite hsched hcmd, hostWrite_improper _ v himproper]
  · rw [step_of_hostRead hsched, hostRead_improper _ himproper]

/-- Settles O22: the byte is written at its own address, and the read finds it there. -/
theorem imageWriteThenReadReturnsTheByte : Obligations.ImageWriteThenReadReturnsTheByte := by
  intro s addr v rest hidle hlow hhigh hsched
  have himg : inImg addr.toNat = true := inImg_iff.2 ⟨hlow, hhigh⟩
  have hread := readByte_writeByte_same s.mem addr.toNat (v.setWidth 8)
  refine ⟨writeByte s.mem addr.toNat (v.setWidth 8), ?_, hread, fun a ha => readByte_writeByte_other _ _ ha,
    fun rest' => ?_⟩
  · rw [step_of_dataWrite hsched (by simp), hostWrite_img { s with sched := rest } v hidle himg]
  · rw [step_of_hostRead rfl, hostRead_of_readByte_some _ (.inr himg) hread]

end Sys2Proof.Proofs
end

section
/-! PROOFS. Proofs/RoundTrip.lean: the decoder and the encoder are inverse to each other, format by format (R54 to R66,
R84). -/

namespace Sys2Proof

open Sys2Proof.Machine

/-! ## Words and their fields -/

/-- A field of a concatenation above its lower part. -/
theorem extractLsb'_append_high {v w : Nat} (hi : BitVec v) (lo : BitVec w) (start len : Nat) :
    (hi ++ lo).extractLsb' (w + start) len = hi.extractLsb' start len := by
  rw [BitVec.extractLsb'_append_eq_of_le (Nat.le_add_right w start), Nat.add_sub_cancel_left]

/-- Joining four bytes and splitting the word gives the bytes. -/
theorem wordBytes_bytesWord (b3 b2 b1 b0 : Byte) : wordBytes (bytesWord b3 b2 b1 b0) = [b3, b2, b1, b0] := by
  have byte3 : (bytesWord b3 b2 b1 b0).extractLsb' 24 8 = b3 :=
    calc (bytesWord b3 b2 b1 b0).extractLsb' 24 8
      _ = (b3 ++ b2 ++ b1).extractLsb' 16 8 := extractLsb'_append_high (b3 ++ b2 ++ b1) b0 16 8
      _ = (b3 ++ b2).extractLsb' 8 8 := extractLsb'_append_high (b3 ++ b2) b1 8 8
      _ = b3.extractLsb' 0 8 := extractLsb'_append_high b3 b2 0 8
      _ = b3 := BitVec.extractLsb'_eq_self
  have byte2 : (bytesWord b3 b2 b1 b0).extractLsb' 16 8 = b2 :=
    calc (bytesWord b3 b2 b1 b0).extractLsb' 16 8
      _ = (b3 ++ b2 ++ b1).extractLsb' 8 8 := extractLsb'_append_high (b3 ++ b2 ++ b1) b0 8 8
      _ = (b3 ++ b2).extractLsb' 0 8 := extractLsb'_append_high (b3 ++ b2) b1 0 8
      _ = b2 := extractLsb'_append_low b3 b2
  have byte1 : (bytesWord b3 b2 b1 b0).extractLsb' 8 8 = b1 :=
    (extractLsb'_append_high (b3 ++ b2 ++ b1) b0 0 8).trans (extractLsb'_append_low (b3 ++ b2) b1)
  have byte0 : (bytesWord b3 b2 b1 b0).extractLsb' 0 8 = b0 := extractLsb'_append_low (b3 ++ b2 ++ b1) b0
  rw [wordBytes, byte3, byte2, byte1, byte0]

theorem hostWord_op (ignored : BitVec 28) (op : BitVec 4) : (hostWord ignored op).extractLsb' 0 4 = op :=
  extractLsb'_append_low ignored op

theorem hostWord_ignored (ignored : BitVec 28) (op : BitVec 4) : (hostWord ignored op).extractLsb' 4 28 = ignored :=
  (extractLsb'_append_high ignored op 0 28).trans BitVec.extractLsb'_eq_self

theorem hostWord_extractLsb' (w : Word) : hostWord (w.extractLsb' 4 28) (w.extractLsb' 0 4) = w :=
  BitVec.extractLsb'_append_extractLsb' (w := 28) (len := 4)

/-! ## Host commands -/

/-- A code `0b011x` is `0x6` or `0x7`, with `low` below its three upper bits (R68). -/
theorem reserved67_code : ∀ low : BitVec 1, 0b011#3 ++ low ∉ [0x0#4, 0x1#4, 0x2#4, 0x3#4, 0x4#4, 0x5#4] ∧
    (0b011#3 ++ low).extractLsb' 1 3 = 0b011#3 ∧ (0b011#3 ++ low).extractLsb' 0 1 = low := by
  decide

/-- A code `0b1xxx` is none of `0x0` to `0x7`, with `low` below bit 3 (R68). -/
theorem reserved8F_code : ∀ low : BitVec 3, 0b1#1 ++ low ∉ [0x0#4, 0x1#4, 0x2#4, 0x3#4, 0x4#4, 0x5#4] ∧
    (0b1#1 ++ low).extractLsb' 1 3 ≠ 0b011#3 ∧ (0b1#1 ++ low).extractLsb' 0 3 = low := by
  decide

theorem code_of_reserved67 : ∀ op : BitVec 4, op.extractLsb' 1 3 = 0b011#3 → 0b011#3 ++ op.extractLsb' 0 1 = op := by
  decide

theorem code_of_reserved8F : ∀ op : BitVec 4, op ∉ [0x0#4, 0x1#4, 0x2#4, 0x3#4, 0x4#4, 0x5#4] →
    op.extractLsb' 1 3 ≠ 0b011#3 → 0b1#1 ++ op.extractLsb' 0 3 = op := by
  decide

/-- The code of an operation selects it, and bits [31:4] come back as they were (R55, R56, R68). -/
theorem decode_encode_hostCmd {i : Instr} (hformat : i.format = .hostCmd) : decode .hostCmd (encode i) = .ok i := by
  cases i
  case sync | getId | eraseAll | upload | newSession | reserved0 =>
    simp [encode, decode_wordBytes, decodeHostWord, hostWord_op, hostWord_ignored]
  case reserved67 low ignored =>
    have hcode := reserved67_code low
    simp_all [encode, decode_wordBytes, decodeHostWord, hostWord_op, hostWord_ignored]
  case reserved8F low ignored =>
    have hcode := reserved8F_code low
    simp_all [encode, decode_wordBytes, decodeHostWord, hostWord_op, hostWord_ignored]
  all_goals cases hformat

/-- A word written to `CMD` is the encoding of the operation it names: no bit is lost (R55). -/
theorem encode_decodeHostWord (w : Word) : encode (decodeHostWord w) = wordBytes w := by
  have encode_code : ∀ op : BitVec 4, op = w.extractLsb' 0 4 →
      wordBytes (hostWord (w.extractLsb' 4 28) op) = wordBytes w := by
    rintro _ rfl
    rw [hostWord_extractLsb']
  simp only [decodeHostWord]
  split_ifs with h0 h1 h2 h3 h4 h5 h67
  · exact encode_code _ h0.symm
  · exact encode_code _ h1.symm
  · exact encode_code _ h2.symm
  · exact encode_code _ h3.symm
  · exact encode_code _ h4.symm
  · exact encode_code _ h5.symm
  · exact encode_code _ (code_of_reserved67 _ h67)
  · exact encode_code _ (code_of_reserved8F _ (by simp [h0, h1, h2, h3, h4, h5]) h67)

/-! ## Checked blocks -/

/-- A block validates exactly when its last byte is the checksum of the bytes before it (R76, R83). -/
theorem validateBlockFrame_concat_iff (l : Byte) (p : List Byte) (c : Byte) :
    validateBlockFrame (l :: (p ++ [c])) = true ↔ c = blockChecksum l p := by
  have hfold : xorFold (l :: (p ++ [c])) = blockChecksum l p ^^^ c := by
    rw [xorFold_cons, xorFold_append, blockChecksum_eq, BitVec.xor_assoc]
    simp [xorFold]
  simp only [validateBlockFrame, hfold, List.length_cons, List.length_append, Bool.and_eq_true, decide_eq_true_eq,
    beq_iff_eq, BitVec.xor_eq_zero_iff, List.length_nil]
  constructor
  · rintro ⟨-, h⟩; exact h.symm
  · intro h; exact ⟨by omega, h.symm⟩

theorem addressChecksum_bytesWord (b3 b2 b1 b0 : Byte) :
    addressChecksum (bytesWord b3 b2 b1 b0) = blockChecksum b3 [b2, b1, b0] := by
  have hbytes := wordBytes_bytesWord b3 b2 b1 b0
  simp only [wordBytes, List.cons.injEq] at hbytes
  obtain ⟨h3, h2, h1, h0, -⟩ := hbytes
  rw [addressChecksum, h3, h2, h1, h0]
  rfl

/-- The length byte of as many bytes as it declares (R65). -/
theorem lengthByte_of_length {n : Byte} {p : List Byte} (h : p.length = n.toNat + 1) : lengthByte p = n := by
  simp [lengthByte, h]

/-! ## What decodes is what was encoded -/

theorem encode_of_decodeHostCmd {bs : List Byte} {i : Instr} (h : decodeHostCmd bs = .ok i) : encode i = bs := by
  unfold decodeHostCmd at h
  split at h <;> cases h
  rw [encode_decodeHostWord, wordBytes_bytesWord]

theorem encode_of_decodeResp {bs : List Byte} {i : Instr} (h : decodeResp bs = .ok i) : encode i = bs := by
  unfold decodeResp at h
  split at h <;> cases h
  split_ifs with hack hnack
  · rw [hack]; rfl
  · rw [hnack]; rfl
  · rfl

theorem encode_of_decodeInit {bs : List Byte} {i : Instr} (h : decodeInit bs = .ok i) : encode i = bs := by
  unfold decodeInit at h
  split at h
  · split_ifs at h with hconstant
    cases h
    rw [hconstant]; rfl
  · cases h

theorem encode_of_decodeCmdFrame {bs : List Byte} {i : Instr} (h : decodeCmdFrame bs = .ok i) : encode i = bs := by
  unfold decodeCmdFrame at h
  split at h
  · split_ifs at h with hcomplement hopcode hopcode hopcode <;> cases h <;>
      rw [not_not.1 hcomplement, hopcode] <;> rfl
  · cases h

theorem encode_of_decodeSelFrame {bs : List Byte} {i : Instr} (h : decodeSelFrame bs = .ok i) : encode i = bs := by
  unfold decodeSelFrame at h
  split_ifs at h with hlength hselector
  cases h
  exact hselector.symm

theorem encode_of_decodeAddrFrame {bs : List Byte} {i : Instr} (h : decodeAddrFrame bs = .ok i) : encode i = bs := by
  unfold decodeAddrFrame at h
  split at h
  · rename_i b3 b2 b1 b0 c
    split_ifs at h with hvalid
    cases h
    rw [encode, addressFrame, wordBytes_bytesWord, addressChecksum_bytesWord,
      ← (validateBlockFrame_concat_iff b3 [b2, b1, b0] c).1 hvalid]
    rfl
  · cases h

theorem encode_of_decodeDataFrame {bs : List Byte} {i : Instr} (h : decodeDataFrame bs = .ok i) : encode i = bs := by
  unfold decodeDataFrame at h
  split at h
  · cases h
  · rename_i l rest
    split_ifs at h with hlength hvalid
    cases h
    simp only [dataFrameLengthOk, List.length_cons, decide_eq_true_eq] at hlength
    obtain rfl | ⟨p, c, rfl⟩ := rest.eq_nil_or_concat'
    · simp at hlength
    · have hp : p.length = l.toNat + 1 := by
        rw [List.length_append, List.length_singleton] at hlength
        omega
      rw [List.dropLast_concat, encode, dataFrame, lengthByte_of_length hp,
        ← (validateBlockFrame_concat_iff l p c).1 hvalid]

theorem encode_of_decodeIdResp {bs : List Byte} {i : Instr} (h : decodeIdResp bs = .ok i) : encode i = bs := by
  unfold decodeIdResp at h
  split at h
  · rename_i a n rest
    split_ifs at h with hfirst hlength hlast
    cases h
    obtain rfl | ⟨p, c, rfl⟩ := rest.eq_nil_or_concat'
    · simp at hlast
    · have hp : p.length = n.toNat + 1 := by
        rw [List.length_append, List.length_singleton] at hlength
        omega
      have hc : c = 0x79#8 := by simpa using hlast
      rw [List.dropLast_concat, encode, idResponse, lengthByte_of_length hp, hc, not_not.1 hfirst]
  · cases h

/-! ## What was encoded decodes -/

/-- An identifier response declares its own length, and both its ACKs are in place (R63, R66). -/
theorem decode_idResponse {ident : List Byte} (hpos : 1 ≤ ident.length) (hle : ident.length ≤ 256) :
    decode .idResp (idResponse ident) = .ok (.getidResponse ident) := by
  have hlength : (ident ++ [0x79#8]).length = (lengthByte ident).toNat + 2 := by
    rw [lengthByte_toNat ident hpos hle, List.length_append, List.length_singleton]
    omega
  simp only [decode, idResponse, decodeIdResp, hlength, List.getLast?_concat, List.dropLast_concat, ne_eq, not_true,
    if_false]

end Sys2Proof

namespace Sys2Proof.Proofs

open Sys2Proof.Machine

/-- Settles O1, per row: the host commands by their codes, the constant frames by evaluation, and the frames that carry
a payload by the length that `wf` gives it. -/
theorem decodeOfEncodeIsTheInstruction : Obligations.DecodeOfEncodeIsTheInstruction := by
  intro i hwf
  cases i
  case sync | getId | eraseAll | upload | newSession | reserved0 | reserved67 | reserved8F =>
    exact decode_encode_hostCmd rfl
  case init => exact decode_initFrame
  case cmdGetId => exact decode_commandFrame_getId
  case cmdExtendedErase => exact decode_commandFrame_extendedErase
  case cmdWriteMemory => exact decode_commandFrame_writeMemory
  case massEraseSelector => exact decode_selectorFrame
  case addressFrame addr => exact decode_addressFrame addr
  case dataFrame p =>
    obtain ⟨hpos, hle⟩ : 1 ≤ p.length ∧ p.length ≤ 256 := by simpa [Instr.wf, lengthOk] using hwf
    exact decode_dataFrame hpos hle
  case respAck => exact decode_resp_ack
  case respNack => exact decode_resp_nack
  case respOther b =>
    obtain ⟨hack, hnack⟩ : b ≠ 0x79#8 ∧ b ≠ 0x1F#8 := by simpa [Instr.wf] using hwf
    exact decode_resp_other hack hnack
  case getidResponse ident =>
    obtain ⟨hpos, hle⟩ : 1 ≤ ident.length ∧ ident.length ≤ 256 := by simpa [Instr.wf, lengthOk] using hwf
    exact decode_idResponse hpos hle

/-- Settles O2: per format, each byte the decoder checks or reads is the one the encoder writes. -/
theorem encodeOfDecodeIsTheBytes : Obligations.EncodeOfDecodeIsTheBytes := by
  intro f bs i h
  obtain ⟨hformat, hwf⟩ := format_and_wf_of_decode h
  refine ⟨hformat, hwf, ?_⟩
  cases f
  case hostCmd => exact encode_of_decodeHostCmd h
  case resp => exact encode_of_decodeResp h
  case init => exact encode_of_decodeInit h
  case cmdFrame => exact encode_of_decodeCmdFrame h
  case selFrame => exact encode_of_decodeSelFrame h
  case addrFrame => exact encode_of_decodeAddrFrame h
  case dataFrame => exact encode_of_decodeDataFrame h
  case idResp => exact encode_of_decodeIdResp h

/-- Settles O3: the written bytes are the encodings of their instructions, and the two refused frames fail the check of
the opcode and that of the complement. -/
theorem writtenUnitsDecode : Obligations.WrittenUnitsDecode :=
  have decoded := decodeOfEncodeIsTheInstruction
  ⟨decoded (.upload 0#28) rfl, decoded (.sync 3#28) rfl, decoded (.reserved67 1#1 0xFFFFFFF#28) rfl,
    decoded .init rfl, decoded .cmdWriteMemory rfl, rfl, rfl, decoded .massEraseSelector rfl,
    decoded (.addressFrame 0x08000100#32) rfl, decoded (.dataFrame [0x12#8, 0x34#8]) rfl, decoded .respNack rfl,
    decoded (.getidResponse [0x04#8, 0x13#8]) rfl⟩

end Sys2Proof.Proofs
end

section
/-! PROOFS. Proofs/Reads.lean: what a response byte that is neither ACK nor NACK does, and an engine turn at a read as
`RecvData` (R45, R63, R69, R86, R100). -/

namespace Sys2Proof.Machine

open Sys2Proof.Safety

/-! ## Response bytes -/

theorem decodeResponse_other {b : Byte} (hack : b ≠ 0x79#8) (hnack : b ≠ 0x1F#8) (r : List Byte) :
    decodeResponse (b :: r) = .other b := by
  simp only [decodeResponse, hack, hnack, if_false]

/-- At every step that reads one `RESP` a byte other than ACK and NACK fails the step's stage in the same way (R86, R93,
R100). -/
theorem completeRead_other {s : State} {b : Byte} {g : Stage} (hreads : s.seq.readsResp = true)
    (hstage : stageOf s.seq = some g) (hack : b ≠ 0x79#8) (hnack : b ≠ 0x1F#8) :
    completeRead [b] s = .next (s.fail g .unexpectedByte) := by
  have hother := decodeResponse_other hack hnack []
  cases hq : s.seq <;> rw [hq] at hreads hstage
  case syWait | giAck | giFinal | erAckCmd | erAckSel | wrAckCmd | wrAckAddr | wrAckData =>
    cases hstage
    simp only [completeRead, hq, awaitAck, hother]
  all_goals cases hreads

/-- A single byte always decodes as a response, and its instruction takes exactly that byte (R57, R85). -/
theorem exists_decode_resp (b : Byte) : ∃ i, decode .resp [b] = .ok i ∧ ∀ s, exec i s = takeResp b s := by
  by_cases hack : b = 0x79#8
  · subst hack
    exact ⟨_, decode_resp_ack, fun _ => rfl⟩
  by_cases hnack : b = 0x1F#8
  · subst hnack
    exact ⟨_, decode_resp_nack, fun _ => rfl⟩
  exact ⟨_, decode_resp_other hack hnack, fun _ => rfl⟩

/-! ## Engine turns at a read -/

theorem pendingRead_of_readsResp {s : State} (h : s.seq.readsResp = true) : ∃ tm, s.pendingRead = some (1, tm) := by
  unfold State.pendingRead
  split <;> simp_all [Seq.readsResp]

/-- Taking a byte that waits at a step that reads one `RESP` is `RecvData` (R45, R86). -/
theorem takeResp_eq_recvData {s : State} {b : Byte} {q : List Byte} (hreads : s.seq.readsResp = true)
    (hrxq : s.rxq = b :: q) : takeResp b s = recvData s := by
  obtain ⟨tm, hread⟩ := pendingRead_of_readsResp hreads
  simp [takeResp, recvData, hreads, hread, hrxq]

/-- An engine turn at a read is `RecvData` (R45), whether or not the bytes are presented as a unit. -/
theorem step_eq_recvData {s : State} {n : Nat} {tm : Timer} (hturn : s.nextAction = .engine)
    (hread : s.pendingRead = some (n, tm)) : step s = recvData s.popTurn := by
  have hpop : s.popTurn.pendingRead = some (n, tm) := hread
  rcases pendingRead_cases hread with ⟨hreads, rfl⟩ | ⟨hq, -⟩ | ⟨hq, -⟩
  · have hfetch := fetch_of_respToRead hturn (frameToSend_of_readsResp hreads)
    cases hrxq : s.rxq with
    | nil =>
      have hnone := hfetch.trans (respToRead_nil hrxq)
      rw [recvData_of_lacking hpop (by simp [hrxq])]
      simp only [step, hnone, hturn, takeTurn]
      exact engineTurn_of_readsResp (s := s.popTurn) hreads
    | cons b q =>
      obtain ⟨i, hdecode, hexec⟩ := exists_decode_resp b
      rw [step_eq_exec_of_fetch_eq_some (hfetch.trans (respToRead_cons hreads hrxq)) hdecode, hexec]
      exact takeResp_eq_recvData (s := s.popTurn) hreads hrxq
  all_goals
    have hnone : s.fetch = none :=
      (fetch_of_respToRead hturn (by simp only [State.frameToSend, hq])).trans
        (respToRead_of_not_readsResp (by rw [hq]; rfl))
    simp only [step, hnone, hturn, takeTurn]
    exact engineTurn_rawRead (s := s.popTurn) (by simp [hq])

/-- With no turn scheduled the engine has every turn, and none is taken out. -/
theorem step_eq_recvData_of_unscheduled {s : State} {n : Nat} {tm : Timer} (hsched : s.sched = [])
    (hread : s.pendingRead = some (n, tm)) : step s = recvData s := by
  have hpop : s.popTurn = s := by rw [State.popTurn, hsched, List.tail_nil, ← hsched]
  rw [step_eq_recvData (by simp [State.nextAction, hsched]) hread, hpop]

/-! ## Runs -/

theorem run_succ_of_step {s t : State} (k : Nat) (h : step s = .next t) : core.run (k + 1) s = core.run k t := by
  simp only [Host.Core.run, core, h]

/-- The four engine steps of GET_ID on a whole identifier response, where the engine has every turn (R63, R100). -/
theorem run_idResponse {s : State} {ident q : List Byte} (hsched : s.sched = []) (hq : s.seq = .giAck)
    (hpos : 1 ≤ ident.length) (hle : ident.length ≤ 256) (hrxq : s.rxq = idResponse ident ++ q) :
    core.run 4 s = .next { s with rxq := q, idn := lengthByte ident, idtmp := ident, seq := .giFinal }.storeId := by
  have hlength : (lengthByte ident).toNat + 1 = ident.length := by rw [lengthByte_toNat ident hpos hle]; omega
  have hunit : s.rxq = 0x79#8 :: lengthByte ident :: (ident ++ 0x79#8 :: q) := by simp [hrxq, idResponse]
  have hread : s.pendingRead = some (1, .tack) := by simp only [State.pendingRead, hq]
  have hack := (step_eq_recvData_of_unscheduled hsched hread).trans (recvData_giAck hq hunit)
  have hlen := (step_eq_recvData_of_unscheduled
    (s := { s with rxq := lengthByte ident :: (ident ++ 0x79#8 :: q), seq := .giLen }) hsched rfl).trans
      (recvData_giLen rfl rfl)
  have hdata := (step_eq_recvData_of_unscheduled
    (s := { s with rxq := ident ++ 0x79#8 :: q, idn := lengthByte ident, seq := .giData }) hsched rfl).trans
      (recvData_giData rfl (by simp [hlength]))
  have hfinal := (step_eq_recvData_of_unscheduled
    (s := { s with rxq := 0x79#8 :: q, idn := lengthByte ident, idtmp := ident, seq := .giFinal }) hsched rfl).trans
      (recvData_giFinal rfl rfl)
  simp only [hlength, List.take_left, List.drop_left] at hdata
  rw [run_succ_of_step 3 hack, run_succ_of_step 2 hlen, run_succ_of_step 1 hdata, run_succ_of_step 0 hfinal]
  rfl

end Sys2Proof.Machine

namespace Sys2Proof.Proofs

open Sys2Proof.Machine Sys2Proof.Safety

/-- Settles O42: the one turn and the four engine steps both end in `storeId` with the whole identifier in `IDTMP`. -/
theorem getidResponseIsFourEngineSteps : Obligations.GetidResponseIsFourEngineSteps := by
  rintro s ident hq hsched hpos hle ⟨q, hrxq⟩
  exact (exec_getidResponse_due hq hpos hle hrxq.symm).trans (run_idResponse hsched hq hpos hle hrxq.symm).symm

/-- Settles O39: the byte is taken, and decodes as neither ACK nor NACK at whichever stage reads it. -/
theorem otherByteFailsTheStage : Obligations.OtherByteFailsTheStage := by
  intro s b q g hreads hstage hack hnack hrxq
  calc exec (.respOther b) s
    _ = completeRead [b] { s with rxq := q } := takeResp_due hreads hrxq
    _ = .next (State.fail { s with rxq := q } g .unexpectedByte) :=
      completeRead_other (s := { s with rxq := q }) hreads hstage hack hnack

end Sys2Proof.Proofs
end

section
/-! PROOFS. Proofs/Commands.lean: the command write, the reserved codes, and the engine's step `UP_NEXT` (R55, R68, R112,
R117). -/

namespace Sys2Proof.Machine

/-! ## Host commands -/

theorem whenIdle_of_idle {s : State} (hidle : s.busy = false) (act : State → State) :
    whenIdle s act = .next (act s) := by
  simp [whenIdle, hidle]

/-! ## The step `UP_NEXT` -/

theorem engineTurn_upNext {s : State} (hq : s.seq = .upNext) : engineTurn s = upNext s := by
  simp only [engineTurn, hq]

/-- `UP_NEXT` is an engine step that presents no unit (R28). -/
theorem step_of_upNext {s : State} {rest : List Action} (hsched : s.sched = .engine :: rest) (hq : s.seq = .upNext) :
    step s = upNext { s with sched := rest } := by
  rw [step_of_engineTurn hsched (by simp only [State.frameToSend, hq])
    (respToRead_of_not_readsResp (by rw [hq]; rfl))]
  exact engineTurn_upNext (s := { s with sched := rest }) hq

theorem upNext_of_all_written {s : State} (hall : s.bytesWritten = s.len) :
    upNext s = .next (((s.setSession .complete).emit (.uploadComplete s.len)).finish .ok) :=
  if_pos hall

theorem upNext_of_bytes_left {s : State} (hmore : s.bytesWritten.toNat < s.len.toNat)
    (hsum : s.base.toNat + s.bytesWritten.toNat < 2 ^ 32) :
    upNext s = .next { s with
      chunkLen := BitVec.ofNat 9 (min 256 (s.len.toNat - s.bytesWritten.toNat))
      chunkAddr := s.base + s.bytesWritten
      session := if s.session = .erased then .programming else s.session
      seq := .wrSendCmd } := by
  have hne : s.bytesWritten ≠ s.len := fun h => by simp [h] at hmore
  rw [upNext, if_neg hne, if_neg (by omega), if_neg (by omega)]

theorem toNat_chunkLength (n : Nat) : (BitVec.ofNat 9 (min 256 n)).toNat = min 256 n := by
  rw [BitVec.toNat_ofNat]
  omega

end Sys2Proof.Machine

namespace Sys2Proof.Proofs

open Sys2Proof.Machine

/-- Settles O9: the write presents the word's four bytes, which decode to the operation it names. -/
theorem commandWriteRunsItsOperation : Obligations.CommandWriteRunsItsOperation :=
  fun _ _ _ hsched => step_of_commandWrite hsched

/-- Settles O27: with no operation running, each reserved row is `refuse .contractError`. -/
theorem reservedCodeIsRefused : Obligations.ReservedCodeIsRefused := by
  intro s w l1 l3 hidle
  have refused := whenIdle_of_idle hidle fun s => s.refuse .contractError
  exact ⟨refused, refused, refused⟩

/-- Settles O44: below `2^32` the chunk's address is the exact sum, and a chunk's length fits `CHUNK_LEN`. -/
theorem upNextPicksTheNextChunkOrCompletes : Obligations.UpNextPicksTheNextChunkOrCompletes := by
  intro s rest hsched hq
  rw [step_of_upNext hsched hq]
  refine ⟨fun hall => upNext_of_all_written (s := { s with sched := rest }) hall, fun hmore hsum =>
    ⟨_, _, toNat_chunkLength _, ?_, upNext_of_bytes_left (s := { s with sched := rest }) hmore hsum⟩⟩
  rw [BitVec.toNat_add, Nat.mod_eq_of_lt hsum]

end Sys2Proof.Proofs
end

section
/-! PROOFS. Proofs/Framing.lean: the laws of the checksums, the validators as the decoder's own checks, and the response
decoder (R75 to R85, R88). -/

namespace Sys2Proof.Machine

/-! ## Checksums -/

theorem commandChecksum_commandChecksum (c : Byte) : commandChecksum (commandChecksum c) = c := by
  rw [commandChecksum, commandChecksum, BitVec.xor_assoc, BitVec.xor_self, BitVec.xor_zero]

/-- Where three bytes of two addresses and their checksums agree, the fourth bytes do: XOR cancels the three (R77). -/
theorem byte_eq_of_addressChecksum_eq {a a' : Word} {k : Nat} (hk : k < 4)
    (hrest : ∀ j, j < 4 → j ≠ k → a.extractLsb' (8 * j) 8 = a'.extractLsb' (8 * j) 8)
    (hsum : addressChecksum a = addressChecksum a') : a.extractLsb' (8 * k) 8 = a'.extractLsb' (8 * k) 8 := by
  have byte0 := hrest 0 (by decide)
  have byte1 := hrest 1 (by decide)
  have byte2 := hrest 2 (by decide)
  have byte3 := hrest 3 (by decide)
  interval_cases k
  · simpa [addressChecksum, byte1, byte2, byte3] using hsum
  · simpa [addressChecksum, byte0, byte2, byte3] using hsum
  · simpa [addressChecksum, byte0, byte1, byte3] using hsum
  · simpa [addressChecksum, byte0, byte1, byte2] using hsum

/-! ## Validators -/

theorem validateCommandFrame_iff (f : List Byte) : validateCommandFrame f = true ↔ ∃ c, f = commandFrame c := by
  constructor
  · intro h
    unfold validateCommandFrame at h
    split at h
    · exact ⟨_, by rw [eq_of_beq h]; rfl⟩
    · cases h
  · rintro ⟨c, rfl⟩
    exact beq_self_eq_true _

theorem validateAddressFrame_iff (f : List Byte) : validateAddressFrame f = true ↔ ∃ a, f = addressFrame a := by
  rw [validateAddressFrame, Bool.and_eq_true, decide_eq_true_eq]
  constructor
  · rintro ⟨hlength, hvalid⟩
    match f, hlength with
    | [b3, b2, b1, b0, c], _ =>
      have hdecode : decodeAddrFrame [b3, b2, b1, b0, c] = .ok (.addressFrame (bytesWord b3 b2 b1 b0)) := if_pos hvalid
      exact ⟨_, (encode_of_decodeAddrFrame hdecode).symm⟩
  · rintro ⟨a, rfl⟩
    exact ⟨addressFrame_length a, validateBlockFrame_addressFrame a⟩

/-- `ValidateDataFrame` makes the checks that the decoder makes (R84). -/
theorem validateDataFrame_iff_decodes (f : List Byte) :
    validateDataFrame f = true ↔ ∃ i, decodeDataFrame f = .ok i := by
  cases f with
  | nil => simp [validateDataFrame, dataFrameLengthOk, decodeDataFrame]
  | cons l rest =>
    rw [validateDataFrame, Bool.and_eq_true, decodeDataFrame]
    split_ifs with hlength hvalid
    · simp [hlength, hvalid]
    · simp [hvalid]
    · simp [hlength]

theorem validateDataFrame_iff (f : List Byte) :
    validateDataFrame f = true ↔ ∃ p : List Byte, 1 ≤ p.length ∧ p.length ≤ 256 ∧ f = dataFrame p := by
  rw [validateDataFrame_iff_decodes]
  constructor
  · rintro ⟨i, hdecode⟩
    obtain ⟨p, rfl, hp⟩ := decodeDataFrame_cases hdecode
    obtain ⟨hpos, hle⟩ := of_decide_eq_true hp
    exact ⟨p, hpos, hle, (encode_of_decodeDataFrame hdecode).symm⟩
  · rintro ⟨p, hpos, hle, rfl⟩
    exact ⟨_, decode_dataFrame hpos hle⟩

/-! ## Responses -/

theorem decodeResponse_ack (r : List Byte) : decodeResponse (0x79#8 :: r) = .ack := rfl

theorem decodeResponse_nack (r : List Byte) : decodeResponse (0x1F#8 :: r) = .nack := rfl

end Sys2Proof.Machine

namespace Sys2Proof.Proofs

open Sys2Proof.Machine

/-- Settles O5: each law is the cancellation of XOR, for the data frame by `xorFold_dataFrame`. -/
theorem checksumLaws : Obligations.ChecksumLaws :=
  ⟨commandChecksum_commandChecksum, fun p _ _ => xorFold_dataFrame p,
    fun _ _ _ hk hne hrest hsum => hne (byte_eq_of_addressChecksum_eq hk hrest hsum), fun _ _ => BitVec.xor_self⟩

/-- Settles O6: what a validator accepts the decoder decodes, and what decodes is what a builder built. -/
theorem validatorsAcceptExactlyBuiltFrames : Obligations.ValidatorsAcceptExactlyBuiltFrames :=
  fun f => ⟨validateCommandFrame_iff f, validateAddressFrame_iff f, validateDataFrame_iff f⟩

/-- Settles O7, per case of the first byte. -/
theorem responseDecoderCases : Obligations.ResponseDecoderCases := by
  refine ⟨rfl, fun b r => ⟨?_, ?_, fun hack hnack => decodeResponse_other hack hnack r⟩⟩
  · rintro rfl
    exact decodeResponse_ack r
  · rintro rfl
    exact decodeResponse_nack r

end Sys2Proof.Proofs
end

section
/-! PROOFS. Proofs/Responses.lean: ACK at the stages that have a following step, and NACK at every acknowledgement stage
(R86, R93, R100, R104, R108). -/

namespace Sys2Proof.Machine

open Sys2Proof.Safety

/-- ACK at a stage that awaits it is taken, and the stage's continuation runs (R86). -/
theorem exec_respAck_of_awaitAck {s : State} {q : List Byte} {g : Stage} {onAck : State → StepResult}
    (hreads : s.seq.readsResp = true) (hrxq : s.rxq = 0x79#8 :: q)
    (hawait : ∀ r, completeRead r { s with rxq := q } = awaitAck g r { s with rxq := q } onAck) :
    exec .respAck s = onAck { s with rxq := q } :=
  calc exec .respAck s
    _ = completeRead [0x79#8] { s with rxq := q } := takeResp_due hreads hrxq
    _ = awaitAck g [0x79#8] { s with rxq := q } onAck := hawait _
    _ = onAck { s with rxq := q } := by simp only [awaitAck, decodeResponse_ack]

/-- At every step that reads one `RESP` a NACK fails the step's stage; at SYNC it is no expected answer (R86, R93, R100,
R128). -/
theorem completeRead_nack {s : State} {g : Stage} (hreads : s.seq.readsResp = true) (hstage : stageOf s.seq = some g) :
    completeRead [0x1F#8] s = .next (s.fail g (nackKind s.seq)) := by
  cases hq : s.seq <;> rw [hq] at hreads hstage
  case syWait | giAck | giFinal | erAckCmd | erAckSel | wrAckCmd | wrAckAddr | wrAckData =>
    cases hstage
    simp [completeRead, hq, awaitAck, decodeResponse_nack, nackKind]
  all_goals cases hreads

end Sys2Proof.Machine

namespace Sys2Proof.Proofs

open Sys2Proof.Machine Sys2Proof.Safety

/-- Settles O34: each of the four stages awaits its ACK and then goes to its next step. -/
theorem ackMovesToTheNextStep : Obligations.AckMovesToTheNextStep := by
  intro s q hrxq
  refine ⟨fun hq => ?_, fun hq => ?_, fun hq => ?_, fun hq => ?_⟩
  all_goals exact exec_respAck_of_awaitAck (by rw [hq]; rfl) hrxq fun r => by simp only [completeRead, hq]; rfl

/-- Settles O38: the byte is taken, and decodes as NACK at whichever stage reads it. -/
theorem nackFailsTheStage : Obligations.NackFailsTheStage := by
  intro s q g hreads hstage hrxq
  calc exec .respNack s
    _ = completeRead [0x1F#8] { s with rxq := q } := takeResp_due hreads hrxq
    _ = .next (State.fail { s with rxq := q } g (nackKind s.seq)) :=
      completeRead_nack (s := { s with rxq := q }) hreads hstage

end Sys2Proof.Proofs
end

section
/-! PROOFS. Proofs/Handshake.lean: acceptance and refusal of SYNC, GET_ID, ERASE_ALL and UPLOAD, and the ACK that ends
SYNC and ERASE_ALL (R92, R93, R96, R101, R104, R109, R118 to R120). -/

namespace Sys2Proof.Machine

/-! ## The checks of R119 -/

theorem refusal_of_terminal {s : State} {op : HostOp} (hop : op ≠ .newSession)
    (hterminal : s.session.terminal = true) : s.refusal op = some .sessionClosed := by
  rw [State.refusal, if_neg hop, if_pos hterminal]

theorem refusal_of_not_legal {s : State} {op : HostOp} (hop : op ≠ .newSession)
    (hopen : s.session.terminal = false) (hlegal : s.legal op = false) : s.refusal op = some .contractError := by
  simp [State.refusal, hop, hopen, hlegal]

/-- The check for a terminal session never refuses a legal operation (R119). -/
theorem not_terminal_of_legal {s : State} {op : HostOp} (hop : op ≠ .newSession) (hlegal : s.legal op = true) :
    s.session.terminal = false := by
  cases hv : s.session
  case complete | failed => cases op <;> simp [State.legal, hv] at hop hlegal
  case uninitialized | synchronized | erased | programming => rfl

theorem refusal_of_operands {s : State} (hlegal : s.legal .upload = true) (hoperands : s.uploadOperandsOk = false) :
    s.refusal .upload = some .contractError := by
  simp [State.refusal, not_terminal_of_legal (by decide) hlegal, hlegal, hoperands]

/-- The converse of `refusal_none`: a legal operation with good operands passes every check. -/
theorem refusal_eq_none {s : State} {op : HostOp} (hop : op ≠ .newSession) (hlegal : s.legal op = true)
    (hoperands : op = .upload → s.uploadOperandsOk = true) : s.refusal op = none := by
  simpa [State.refusal, hop, not_terminal_of_legal hop hlegal, hlegal] using hoperands

/-! ## A command write while no operation runs -/

theorem whenIdle_issue_refused {s : State} {op : HostOp} {c : ResultCode} (hidle : s.busy = false)
    (hrefusal : s.refusal op = some c) : whenIdle s (fun s => s.issue op) = .next (s.refuse c) := by
  rw [whenIdle_of_idle hidle, State.issue, hrefusal]

theorem whenIdle_issue_accepted {s : State} {op : HostOp} (hidle : s.busy = false)
    (hrefusal : s.refusal op = none) : whenIdle s (fun s => s.issue op) = .next (s.accept op) := by
  rw [whenIdle_of_idle hidle, State.issue, hrefusal]

/-! ## The last ACK of SYNC -/

theorem completeRead_syWait_ack (s : State) (hq : s.seq = .syWait) :
    completeRead [0x79#8] s = .next (((s.setSession .synchronized).emit .synchronized).finish .ok) := by
  simp only [completeRead, hq, decodeResponse_ack]

end Sys2Proof.Machine

namespace Sys2Proof.Proofs

open Sys2Proof.Machine

/-- Settles O25: in its session each operation passes every check of R119, and acceptance is `State.accept`. -/
theorem acceptedOperationStarts : Obligations.AcceptedOperationStarts := by
  intro s w hidle
  have accepted : ∀ op, op ≠ .newSession → s.legal op = true → (op = .upload → s.uploadOperandsOk = true) →
      whenIdle s (fun s => s.issue op) = .next (s.accept op) := fun _ hop hlegal hoperands =>
    whenIdle_issue_accepted hidle (refusal_eq_none hop hlegal hoperands)
  refine ⟨fun hv => ?sync, fun hv hid => ?getId, fun hv => ?eraseAll, fun hv hlen hend => ?upload⟩
  case sync => exact accepted .sync (by decide) (by simp [State.legal, hv]) (absurd · (by decide))
  case getId => exact accepted .getId (by decide) (by simp [State.legal, hv, hid]) (absurd · (by decide))
  case eraseAll => exact accepted .eraseAll (by decide) (by simp [State.legal, hv]) (absurd · (by decide))
  case upload =>
    exact accepted .upload (by decide) (by simp [State.legal, hv]) fun _ => decide_eq_true ⟨hlen, hend⟩

/-- Settles O26: a terminal session closes every operation; in the others the operation is not legal, or the operands of
a legal UPLOAD are out of bounds. -/
theorem refusedOperationSetsOnlyResult : Obligations.RefusedOperationSetsOnlyResult := by
  intro s w hidle
  have closed : s.session.terminal = true → ∀ op, op ≠ .newSession →
      whenIdle s (fun s => s.issue op) = .next (s.refuse .sessionClosed) := fun hterminal _ hop =>
    whenIdle_issue_refused hidle (refusal_of_terminal hop hterminal)
  have illegal : ∀ op, op ≠ .newSession → s.session.terminal = false ∧ s.legal op = false →
      whenIdle s (fun s => s.issue op) = .next (s.refuse .contractError) := fun _ hop ⟨hopen, hlegal⟩ =>
    whenIdle_issue_refused hidle (refusal_of_not_legal hop hopen hlegal)
  refine ⟨fun hv i hi => ?closed, fun hv => ?sync, fun hv => ?getId, fun hv => ?eraseAll, fun hv => ?upload,
    fun hv hbounds => ?operands⟩
  case closed =>
    have hterminal : s.session.terminal = true := by rcases hv with hv | hv <;> rw [hv] <;> rfl
    rcases hi with rfl | rfl | rfl | rfl
    · exact closed hterminal .sync (by decide)
    · exact closed hterminal .getId (by decide)
    · exact closed hterminal .eraseAll (by decide)
    · exact closed hterminal .upload (by decide)
  case sync =>
    exact illegal .sync (by decide) (by rcases hv with hv | hv | hv <;> simp [State.legal, Session.terminal, hv])
  case getId =>
    refine illegal .getId (by decide) ?_
    rcases hv with hv | hv | hv | ⟨hv, hid⟩
    case inr.inr.inr => simp [State.legal, Session.terminal, hv, hid]
    all_goals simp [State.legal, Session.terminal, hv]
  case eraseAll =>
    exact illegal .eraseAll (by decide) (by rcases hv with hv | hv | hv <;> simp [State.legal, Session.terminal, hv])
  case upload =>
    exact illegal .upload (by decide) (by rcases hv with hv | hv | hv <;> simp [State.legal, Session.terminal, hv])
  case operands =>
    have hoperands : s.uploadOperandsOk = false := decide_eq_false (by omega)
    exact whenIdle_issue_refused hidle (refusal_of_operands (by simp [State.legal, hv]) hoperands)

/-- Settles O35: `SY_WAIT` reads its response itself, `ER_ACK_SEL` awaits its ACK; both then finish. -/
theorem ackEndsSyncAndErase : Obligations.AckEndsSyncAndErase := by
  intro s q hrxq
  refine ⟨fun hq => ?sync, fun hq => ?eraseAll⟩
  case sync =>
    exact (takeResp_due (by rw [hq]; rfl) hrxq).trans (completeRead_syWait_ack { s with rxq := q } hq)
  case eraseAll =>
    exact exec_respAck_of_awaitAck (by rw [hq]; rfl) hrxq fun r => by simp only [completeRead, hq]; rfl

end Sys2Proof.Proofs
end

section
/-! PROOFS. Proofs/AcknowledgedUpload.lean: the upload loop where the engine has every turn and each stage is
acknowledged: one chunk is seven engine steps, and the chunks of the plan end in COMPLETE (R108, R110, R112 to R116). -/

namespace Sys2Proof.Machine

open Sys2Proof.Safety

/-! ## The upload plan -/

theorem planCount_eq_zero_iff {n : Nat} : planCount n = 0 ↔ n = 0 := by
  unfold planCount
  omega

/-- The first chunk of a plan leaves the plan of the bytes that remain (R110). -/
theorem planCount_of_pos {n : Nat} (hpos : 0 < n) : planCount n = planCount (n - min 256 n) + 1 := by
  unfold planCount
  omega

/-! ## Engine turns of an empty schedule -/

theorem nextAction_of_unscheduled {s : State} (hsched : s.sched = []) : s.nextAction = .engine := by
  simp [State.nextAction, hsched]

theorem popTurn_of_unscheduled {s : State} (hsched : s.sched = []) : s.popTurn = s := by
  rw [State.popTurn, hsched, List.tail_nil, ← hsched]

theorem step_of_frame_unscheduled {s : State} {f : Format} {bs : List Byte} {i : Instr} (hsched : s.sched = [])
    (hframe : s.frameToSend = some (f, bs)) (hdecode : decode f bs = .ok i) : step s = exec i s := by
  have hfetch := fetch_of_frameToSend (nextAction_of_unscheduled hsched) hframe
  rw [step_eq_exec_of_fetch_eq_some hfetch hdecode, popTurn_of_unscheduled hsched]

theorem step_of_ack_unscheduled {s : State} {q : List Byte} (hsched : s.sched = [])
    (hreads : s.seq.readsResp = true) (hrxq : s.rxq = 0x79#8 :: q) : step s = exec .respAck s := by
  have hfetch := (fetch_of_respToRead (nextAction_of_unscheduled hsched) (frameToSend_of_readsResp hreads)).trans
    (respToRead_cons hreads hrxq)
  rw [step_eq_exec_of_fetch_eq_some hfetch decode_resp_ack, popTurn_of_unscheduled hsched]

theorem step_of_upNext_unscheduled {s : State} (hsched : s.sched = []) (hq : s.seq = .upNext) :
    step s = upNext s := by
  have hfetch : s.fetch = none :=
    (fetch_of_respToRead (nextAction_of_unscheduled hsched) (by simp only [State.frameToSend, hq])).trans
      (respToRead_of_not_readsResp (by rw [hq]; rfl))
  simp only [step, hfetch, nextAction_of_unscheduled hsched, popTurn_of_unscheduled hsched, takeTurn]
  exact engineTurn_upNext hq

/-! ## The three frames of WRITE MEMORY -/

@[simp] theorem commandFrame_length (opcode : Byte) : (commandFrame opcode).length = 2 := rfl

theorem step_of_wrSendCmd {s : State} (hsched : s.sched = []) (hq : s.seq = .wrSendCmd) :
    step s = .next ((s.send (commandFrame 0x31#8)).goto .wrAckCmd) :=
  (step_of_frame_unscheduled hsched (by simp only [State.frameToSend, hq]) decode_commandFrame_writeMemory).trans
    (exec_cmdWriteMemory_due hq)

theorem step_of_wrSendAddr {s : State} (hsched : s.sched = []) (hq : s.seq = .wrSendAddr) :
    step s = .next ((s.send (addressFrame s.chunkAddr)).goto .wrAckAddr) :=
  (step_of_frame_unscheduled hsched (by simp only [State.frameToSend, hq]) (decode_addressFrame _)).trans
    (exec_addressFrame_due hq)

theorem step_of_wrSendData {s : State} (hsched : s.sched = []) (hq : s.seq = .wrSendData)
    (hpos : 1 ≤ s.chunkLen.toNat) (hle : s.chunkLen.toNat ≤ 256) :
    step s = .next { (s.send (dataFrame s.chunkPayload)).goto .wrAckData with draws := s.chunkDraws } :=
  (step_of_frame_unscheduled hsched (by simp only [State.frameToSend, hq])
    (decode_dataFrame (by rwa [chunkPayload_length]) (by rwa [chunkPayload_length]))).trans (exec_dataFrame_due hq)

/-! ## Their acknowledgements -/

theorem step_of_wrAckCmd {s : State} {q : List Byte} (hsched : s.sched = []) (hq : s.seq = .wrAckCmd)
    (hrxq : s.rxq = 0x79#8 :: q) : step s = .next { s with rxq := q, seq := .wrSendAddr } := by
  obtain ⟨-, -, hack, -⟩ := Proofs.ackMovesToTheNextStep s q hrxq
  exact (step_of_ack_unscheduled hsched (by rw [hq]; rfl) hrxq).trans (hack hq)

theorem step_of_wrAckAddr {s : State} {q : List Byte} (hsched : s.sched = []) (hq : s.seq = .wrAckAddr)
    (hrxq : s.rxq = 0x79#8 :: q) : step s = .next { s with rxq := q, seq := .wrSendData } := by
  obtain ⟨-, -, -, hack⟩ := Proofs.ackMovesToTheNextStep s q hrxq
  exact (step_of_ack_unscheduled hsched (by rw [hq]; rfl) hrxq).trans (hack hq)

theorem step_of_wrAckData {s : State} {q : List Byte} (hsched : s.sched = []) (hq : s.seq = .wrAckData)
    (hrxq : s.rxq = 0x79#8 :: q) (hsum : s.bytesWritten.toNat + s.chunkLen.toNat < 2 ^ 32) :
    ∃ n : Word, n.toNat = s.bytesWritten.toNat + s.chunkLen.toNat ∧
      step s = .next { s with
        rxq := q, bytesWritten := n, evlog := s.evlog ++ [.chunkWritten s.chunkAddr s.chunkLen n s.len],
        seq := .upNext } := by
  rw [step_of_ack_unscheduled hsched (by rw [hq]; rfl) hrxq]
  exact Proofs.ackAtTheDataStageAccountsTheChunk s q hq hrxq hsum

/-! ## Runs -/

/-- A run that answers a next state begins with a step that does. -/
theorem run_succ_cases {s t : State} {j : Nat} (h : core.run (j + 1) s = .next t) :
    ∃ u, step s = .next u ∧ core.run j u = .next t := by
  cases hstep : step s with
  | next u => exact ⟨u, rfl, (run_succ_of_step j hstep).symm.trans h⟩
  | fault r => simp [Host.Core.run, core, hstep] at h
  | refused r => simp [Host.Core.run, core, hstep] at h

theorem run_add_of_run {s t : State} {j : Nat} (k : Nat) (h : core.run j s = .next t) :
    core.run (j + k) s = core.run k t := by
  induction j generalizing s with
  | zero =>
    cases h
    rw [Nat.zero_add]
  | succ j ih =>
    obtain ⟨u, hstep, hrun⟩ := run_succ_cases h
    rw [Nat.succ_add, run_succ_of_step _ hstep, ih hrun]

/-- Every state that a run reaches satisfies `Inv` if the first does. -/
theorem inv_of_run {s t : State} {j : Nat} (hinv : Inv s) (h : core.run j s = .next t) : Inv t := by
  induction j generalizing s with
  | zero =>
    cases h
    exact hinv
  | succ j ih =>
    obtain ⟨u, hstep, hrun⟩ := run_succ_cases h
    exact ih (Proofs.everyStepKeepsInv s u hinv hstep) hrun

/-! ## One chunk: each frame of WRITE MEMORY is sent and acknowledged (R108) -/

theorem run_two_of_steps {s t u : State} (hfirst : step s = .next t) (hsecond : step t = .next u) :
    core.run 2 s = .next u :=
  (run_succ_of_step 1 hfirst).trans (run_succ_of_step 0 hsecond)

theorem run_commandFrame {s : State} {q : List Byte} (hsched : s.sched = []) (hq : s.seq = .wrSendCmd)
    (hrxq : s.rxq = 0x79#8 :: q) :
    core.run 2 s = .next { s with txlog := s.txlog ++ commandFrame 0x31#8, rxq := q, seq := .wrSendAddr } :=
  run_two_of_steps (step_of_wrSendCmd hsched hq)
    (step_of_wrAckCmd (s := (s.send (commandFrame 0x31#8)).goto .wrAckCmd) hsched rfl hrxq)

theorem run_addressFrame {s : State} {q : List Byte} (hsched : s.sched = []) (hq : s.seq = .wrSendAddr)
    (hrxq : s.rxq = 0x79#8 :: q) :
    core.run 2 s = .next { s with txlog := s.txlog ++ addressFrame s.chunkAddr, rxq := q, seq := .wrSendData } :=
  run_two_of_steps (step_of_wrSendAddr hsched hq)
    (step_of_wrAckAddr (s := (s.send (addressFrame s.chunkAddr)).goto .wrAckAddr) hsched rfl hrxq)

/-- The chunk whose data frame is acknowledged is accounted (R113). -/
theorem run_dataFrame {s : State} {q : List Byte} (hsched : s.sched = []) (hq : s.seq = .wrSendData)
    (hpos : 1 ≤ s.chunkLen.toNat) (hle : s.chunkLen.toNat ≤ 256)
    (hsum : s.bytesWritten.toNat + s.chunkLen.toNat < 2 ^ 32) (hrxq : s.rxq = 0x79#8 :: q) :
    ∃ n : Word, n.toNat = s.bytesWritten.toNat + s.chunkLen.toNat ∧
      core.run 2 s = .next { s with
        txlog := s.txlog ++ dataFrame s.chunkPayload, draws := s.chunkDraws, rxq := q, bytesWritten := n
        evlog := s.evlog ++ [.chunkWritten s.chunkAddr s.chunkLen n s.len], seq := .upNext } := by
  obtain ⟨n, hcount, hack⟩ := step_of_wrAckData
    (s := { (s.send (dataFrame s.chunkPayload)).goto .wrAckData with draws := s.chunkDraws }) hsched rfl hrxq hsum
  exact ⟨n, hcount, run_two_of_steps (step_of_wrSendData hsched hq hpos hle) hack⟩

/-- `t` is the state in which the upload that stood in `s` is back at `UP_NEXT`, a chunk of `n` bytes acknowledged and
`q` left to read. -/
structure ChunkAcknowledged (s t : State) (n : Nat) (q : List Byte) : Prop where
  seq : t.seq = .upNext
  sched : t.sched = []
  rxq : t.rxq = q
  len : t.len = s.len
  bytesWritten : t.bytesWritten.toNat = s.bytesWritten.toNat + n
  txlog : t.txlog.length = s.txlog.length + n + 9

/-- The acknowledged WRITE MEMORY sequence: three frames sent, three ACKs taken (R108). -/
theorem run_writeMemory {s : State} {q : List Byte} (hsched : s.sched = []) (hq : s.seq = .wrSendCmd)
    (hpos : 1 ≤ s.chunkLen.toNat) (hle : s.chunkLen.toNat ≤ 256)
    (hsum : s.bytesWritten.toNat + s.chunkLen.toNat < 2 ^ 32) (hrxq : s.rxq = List.replicate 3 0x79#8 ++ q) :
    ∃ t, core.run 6 s = .next t ∧ ChunkAcknowledged s t s.chunkLen.toNat q := by
  have hcommand := run_commandFrame hsched hq hrxq
  have haddress := run_addressFrame (s := { s with
    txlog := s.txlog ++ commandFrame 0x31#8, rxq := 0x79#8 :: 0x79#8 :: q, seq := .wrSendAddr }) hsched rfl rfl
  obtain ⟨n, hcount, hdata⟩ := run_dataFrame (s := { s with
    txlog := s.txlog ++ commandFrame 0x31#8 ++ addressFrame s.chunkAddr, rxq := 0x79#8 :: q, seq := .wrSendData })
    hsched rfl hpos hle hsum rfl
  refine ⟨_, (run_add_of_run 4 hcommand).trans ((run_add_of_run 2 haddress).trans hdata), rfl, hsched, rfl, rfl,
    hcount, ?_⟩
  simp only [List.length_append, commandFrame_length, addressFrame_length, dataFrame_length, chunkPayload_length]
  omega

/-- `UP_NEXT` picks the chunk, and the six steps of WRITE MEMORY write it (R112, R113). -/
theorem run_chunk {s : State} {q : List Byte} (hinv : Inv s) (hsched : s.sched = []) (hq : s.seq = .upNext)
    (hmore : s.bytesWritten.toNat < s.len.toNat) (hrxq : s.rxq = List.replicate 3 0x79#8 ++ q) :
    ∃ t, core.run 7 s = .next t ∧ ChunkAcknowledged s t (min 256 (s.len.toNat - s.bytesWritten.toNat)) q := by
  obtain ⟨-, -, -, hupload, -⟩ := hinv
  obtain ⟨-, -, hfits⟩ := hupload (by rw [hq]; rfl)
  have hfirst := (step_of_upNext_unscheduled hsched hq).trans (upNext_of_bytes_left hmore (by omega))
  have hlen := toNat_chunkLength (s.len.toNat - s.bytesWritten.toNat)
  have hlt := s.len.isLt
  obtain ⟨t, hrun, hchunk⟩ := run_writeMemory (s := { s with
      chunkLen := BitVec.ofNat 9 (min 256 (s.len.toNat - s.bytesWritten.toNat))
      chunkAddr := s.base + s.bytesWritten
      session := if s.session = .erased then .programming else s.session
      seq := .wrSendCmd }) hsched rfl (by simp only [hlen]; omega) (by simp only [hlen]; omega)
      (by simp only [hlen]; omega) hrxq
  rw [hlen] at hchunk
  exact ⟨t, (run_succ_of_step 6 hfirst).trans hrun, { hchunk with }⟩

/-! ## The whole upload -/

/-- `t` is the state in which the upload standing at `UP_NEXT` in `s` has completed in `k` chunks, with `q` left
to read. -/
structure UploadCompleted (s t : State) (q : List Byte) (k : Nat) : Prop where
  session : t.session = .complete
  result : t.result = .ok
  busy : t.busy = false
  seq : t.seq = .idle
  bytesWritten : t.bytesWritten = s.len
  rxq : t.rxq = q
  txlog : t.txlog.length = s.txlog.length + (s.len.toNat - s.bytesWritten.toNat) + 9 * k

theorem uploadCompleted_of_chunk {s u t : State} {q r : List Byte} {k : Nat}
    (hchunk : ChunkAcknowledged s u (min 256 (s.len.toNat - s.bytesWritten.toNat)) r)
    (hrest : UploadCompleted u t q k) : UploadCompleted s t q (k + 1) where
  session := hrest.session
  result := hrest.result
  busy := hrest.busy
  seq := hrest.seq
  bytesWritten := hrest.bytesWritten.trans hchunk.len
  rxq := hrest.rxq
  txlog := by
    have hsent := hrest.txlog
    rw [hchunk.txlog, hchunk.bytesWritten, hchunk.len] at hsent
    omega

/-- Induction over the chunks of the plan: each leaves the plan of the bytes that remain. -/
theorem run_upload {s : State} {q : List Byte} {k : Nat} (hinv : Inv s) (hq : s.seq = .upNext) (hsched : s.sched = [])
    (hplan : k = planCount (s.len.toNat - s.bytesWritten.toNat)) (hrxq : s.rxq = List.replicate (3 * k) 0x79#8 ++ q) :
    ∃ t, core.run (7 * k + 1) s = .next t ∧ UploadCompleted s t q k := by
  induction k generalizing s with
  | zero =>
    have hnone := planCount_eq_zero_iff.1 hplan.symm
    obtain ⟨-, -, -, hupload, -⟩ := hinv
    obtain ⟨hle, -⟩ := hupload (by rw [hq]; rfl)
    have hall : s.bytesWritten = s.len := BitVec.eq_of_toNat_eq (by omega)
    have hlast := (step_of_upNext_unscheduled hsched hq).trans (upNext_of_all_written hall)
    exact ⟨_, run_succ_of_step 0 hlast, rfl, rfl, rfl, rfl, hall, hrxq, by simp [hnone]⟩
  | succ k ih =>
    have hpos : 0 < s.len.toNat - s.bytesWritten.toNat :=
      Nat.pos_of_ne_zero fun h => absurd (planCount_eq_zero_iff.2 h) (by omega)
    have hacks : s.rxq = List.replicate 3 0x79#8 ++ (List.replicate (3 * k) 0x79#8 ++ q) := by
      rw [hrxq, Nat.mul_succ, Nat.add_comm, List.replicate_add, List.append_assoc]
    obtain ⟨u, hrun, hchunk⟩ := run_chunk hinv hsched hq (by omega) hacks
    have hrest : k = planCount (u.len.toNat - u.bytesWritten.toNat) := by
      rw [planCount_of_pos hpos] at hplan
      rw [hchunk.len, hchunk.bytesWritten, ← Nat.sub_sub]
      omega
    obtain ⟨t, hrun', hcompleted⟩ := ih (inv_of_run hinv hrun) hchunk.seq hchunk.sched hrest hchunk.rxq
    refine ⟨t, ?_, uploadCompleted_of_chunk hchunk hcompleted⟩
    calc core.run (7 * (k + 1) + 1) s
      _ = core.run (7 + (7 * k + 1)) s := by congr 1; omega
      _ = core.run (7 * k + 1) u := run_add_of_run _ hrun
      _ = .next t := hrun'

end Sys2Proof.Machine

namespace Sys2Proof.Proofs

open Sys2Proof.Machine

/-- Settles O47, by induction over the chunks of the plan. -/
theorem acknowledgedUploadCompletes : Obligations.AcknowledgedUploadCompletes := by
  intro s q k hinv hq hsched hplan hrxq
  obtain ⟨t, hrun, hdone⟩ := run_upload hinv hq hsched hplan hrxq
  exact ⟨t, hrun, hdone.session, hdone.result, hdone.busy, hdone.seq, hdone.bytesWritten, hdone.rxq, hdone.txlog⟩

end Sys2Proof.Proofs
end

section
/-! PROOFS. Proofs/UploadPlan.lean: the upload plan cuts the image into its chunks exactly once, and `UP_NEXT` picks them
one by one (R110 to R112). -/

namespace Sys2Proof.Machine

open Sys2Proof.Safety

/-! ## The chunks of the plan -/

/-- The plan's chunks are those that begin inside the image. -/
theorem lt_planCount_iff {len i : Nat} : i < planCount len ↔ planOffset i < len := by
  unfold planCount planOffset
  omega

theorem planAddress_eq_add_planOffset (base i : Nat) : planAddress base i = base + planOffset i := rfl

/-- What is left of the image at a chunk's offset is its length, up to 256 bytes. -/
theorem planLength_eq_min_sub_planOffset (len i : Nat) : planLength len i = min 256 (len - planOffset i) := rfl

theorem planLength_pos {len i : Nat} (h : i < planCount len) : 1 ≤ planLength len i := by
  have hoffset := lt_planCount_iff.1 h
  rw [planLength_eq_min_sub_planOffset]
  omega

theorem planLength_le (len i : Nat) : planLength len i ≤ 256 := Nat.min_le_left _ _

theorem planOffset_succ (i : Nat) : planOffset (i + 1) = planOffset i + 256 := Nat.mul_succ 256 i

/-- Every chunk but the last ends where the next begins. -/
theorem planOffset_add_planLength_of_succ_lt {len i : Nat} (h : i + 1 < planCount len) :
    planOffset i + planLength len i = planOffset (i + 1) := by
  have hnext := lt_planCount_iff.1 h
  rw [planOffset_succ] at hnext ⊢
  rw [planLength_eq_min_sub_planOffset]
  omega

theorem planOffset_add_planLength_le {len i : Nat} (h : i < planCount len) :
    planOffset i + planLength len i ≤ len := by
  have hoffset := lt_planCount_iff.1 h
  rw [planLength_eq_min_sub_planOffset]
  omega

/-- The first `k` chunks hold the first `256 k` bytes of the image, or all of it. -/
theorem sum_planLength_range (len k : Nat) : ((List.range k).map (planLength len)).sum = min (planOffset k) len := by
  induction k with
  | zero => simp [planOffset]
  | succ k ih =>
    rw [List.range_succ, List.map_append, List.sum_append, ih, List.map_singleton, List.sum_singleton,
      planLength_eq_min_sub_planOffset, planOffset_succ]
    omega

theorem le_planOffset_planCount (len : Nat) : len ≤ planOffset (planCount len) :=
  Nat.le_of_not_lt fun h => Nat.lt_irrefl _ (lt_planCount_iff.2 h)

/-- Byte `n` of the image is in chunk `n / 256` and in no other. -/
theorem mem_chunk_iff {len n i : Nat} (hn : n < len) :
    (planOffset i ≤ n ∧ n < planOffset i + planLength len i) ↔ i = n / 256 := by
  unfold planOffset planLength
  omega

theorem div_lt_planCount {len n : Nat} (hn : n < len) : n / 256 < planCount len :=
  lt_planCount_iff.2 (Nat.lt_of_le_of_lt (Nat.mul_div_le n 256) hn)

/-! ## The step that picks a chunk -/

/-- An engine turn at `UP_NEXT`, whether it is scheduled or the schedule is empty. -/
theorem step_eq_upNext {s : State} (hturn : s.nextAction = .engine) (hq : s.seq = .upNext) :
    step s = upNext s.popTurn := by
  cases hsched : s.sched with
  | nil => rw [step_of_upNext_unscheduled hsched hq, popTurn_of_unscheduled hsched]
  | cons a rest =>
    obtain rfl : a = .engine := (nextAction_of_sched hsched).symm.trans hturn
    rw [step_of_upNext hsched hq, popTurn_of_sched hsched]

/-- At `UP_NEXT` the address of a byte of the image is inside the address space (R109). -/
theorem base_add_lt_of_inv {s : State} {n : Nat} (h : Inv s) (hq : s.seq = .upNext) (hn : n < s.len.toNat) :
    s.base.toNat + n < 2 ^ 32 := by
  obtain ⟨-, -, -, hupload, -⟩ := h
  obtain ⟨-, -, hfits⟩ := hupload (by rw [hq]; rfl)
  omega

end Sys2Proof.Machine

namespace Sys2Proof.Proofs

open Sys2Proof.Machine

/-- Settles O45: chunk `i` of the plan begins inside the image, so `UP_NEXT` picks a chunk, and with `BYTES_WRITTEN` at
the chunk's offset it is that one. -/
theorem upNextFollowsThePlan : Obligations.UpNextFollowsThePlan := by
  intro s t i hinv hturn hq hwritten hi hstep
  have hmore : s.bytesWritten.toNat < s.len.toNat := hwritten ▸ lt_planCount_iff.1 hi
  have hsum := base_add_lt_of_inv hinv hq hmore
  rw [step_eq_upNext hturn hq, upNext_of_bytes_left (s := s.popTurn) hmore hsum] at hstep
  obtain rfl := Host.Outcome.next.inj hstep
  refine ⟨rfl, hwritten, ?_, ?_⟩
  · rw [planLength_eq_min_sub_planOffset, ← hwritten]
    exact toNat_chunkLength _
  · rw [planAddress_eq_add_planOffset, ← hwritten]
    exact (BitVec.toNat_add _ _).trans (Nat.mod_eq_of_lt hsum)

/-- Settles O46: each byte's one chunk is the quotient of its index by the chunk size. -/
theorem uploadPlanCoversTheImage : Obligations.UploadPlanCoversTheImage := by
  intro L B _ hfits
  refine ⟨?_, fun _ => rfl, fun i hi => ?_, fun i hi => ⟨planLength_pos hi, planLength_le L i⟩, fun n hn => ?_,
    fun i hi => planOffset_add_planLength_le hi, fun i hi => ?_⟩
  · rw [sum_planLength_range, Nat.min_eq_right (le_planOffset_planCount L)]
  · rw [planAddress_eq_add_planOffset, planAddress_eq_add_planOffset, ← planOffset_add_planLength_of_succ_lt hi,
      Nat.add_assoc]
  · exact ⟨n / 256, ⟨div_lt_planCount hn, (mem_chunk_iff hn).2 rfl⟩, fun j _ hbegin hend =>
      (mem_chunk_iff hn).1 ⟨hbegin, hend⟩⟩
  · have hend := planOffset_add_planLength_le hi
    rw [planAddress_eq_add_planOffset]
    omega

end Sys2Proof.Proofs
end

section
/-! PROOFS. Proofs/NewSession.lean: NEW_SESSION starts over: it clears the session's record and the identifier buffer, and
keeps the rest of the memory (R121). -/

namespace Sys2Proof.Machine

/-- NEW_SESSION is never refused: while no operation runs, the write does it at once. -/
theorem exec_newSession_of_idle {s : State} (hidle : s.busy = false) (w : BitVec 28) :
    exec (.newSession w) s = .next s.newSession :=
  whenIdle_of_idle hidle _

theorem inChipid_of_outside {a : Nat} (h : a < 0x100 ∨ 0x200 ≤ a) : inChipid a = false :=
  Bool.eq_false_iff.2 fun hin => absurd (inChipid_iff.1 hin) (by omega)

end Sys2Proof.Machine

namespace Sys2Proof.Proofs

open Sys2Proof.Machine

/-- Settles O29: `clearChipid` is the memory: it zeroes the identifier buffer and leaves every byte outside it. -/
theorem newSessionStartsOver : Obligations.NewSessionStartsOver := by
  intro s w hidle
  refine ⟨clearChipid s.mem, exec_newSession_of_idle hidle w, fun i hi => ?buffer, fun a ha => ?outside⟩
  case buffer => exact readByte_clearChipid_chipid _ (inChipid_chipidBase_add hi)
  case outside => exact readByte_clearChipid_other _ (inChipid_of_outside ha)

end Sys2Proof.Proofs
end

section
/-! PROOFS. Proofs/FailureEntry.lean: the failure entry of a write stage and of any other stage (R129). -/

namespace Sys2Proof.Machine

/-- The write stages are the three of a chunk (R127). -/
theorem isWrite_iff {g : Stage} : g.isWrite = true ↔ g = .writeCmd ∨ g = .writeAddr ∨ g = .writeData := by
  cases g <;> decide

/-- At a write stage the record says the chunk failed, and where (R129). -/
theorem fail_of_isWrite (s : State) {g : Stage} (k : ErrorKind) (hwrite : g.isWrite = true) :
    s.fail g k = { s with
      result := .chunkFailed, failAddr := s.chunkAddr,
      evlog := s.evlog ++ [.failed g (.chunkFailed s.chunkAddr k)],
      failKind := some k, failStage := g, session := .failed, busy := false, seq := .idle } := by
  simp only [State.fail, hwrite, if_true]

/-- At any other stage the record names the kind alone, and `FAIL_ADDR` is kept (R129). -/
theorem fail_of_not_isWrite (s : State) {g : Stage} (k : ErrorKind) (hother : g.isWrite = false) :
    s.fail g k = { s with
      result := k.result, evlog := s.evlog ++ [.failed g (.kind k)],
      failKind := some k, failStage := g, session := .failed, busy := false, seq := .idle } := by
  simp only [State.fail, hother, Bool.false_eq_true, if_false]

end Sys2Proof.Machine

namespace Sys2Proof.Proofs

open Sys2Proof.Machine

/-- Settles O40: the failure entry depends on the stage only in whether it is a write stage. -/
theorem failureEntryRecordsTheFailure : Obligations.FailureEntryRecordsTheFailure := by
  intro s stage kind
  refine ⟨fun hwrite => fail_of_isWrite s kind (isWrite_iff.2 hwrite), fun hcmd haddr hdata => ?other⟩
  case other =>
    have hother : ¬ stage.isWrite = true := fun hwrite => by
      obtain h | h | h := isWrite_iff.1 hwrite
      · exact hcmd h
      · exact haddr h
      · exact hdata h
    exact fail_of_not_isWrite s kind (Bool.eq_false_iff.2 hother)

end Sys2Proof.Proofs
end
